-- ==== Sys2Proof/Word.lean ====
section
/-! DEFINITION. The fixed widths of SOFDEC (00_scope.md R5, R7): byte, 16-bit value, nibble. All are unsigned. -/

namespace Sys2Proof

/-- A byte, 8 bits (R7). -/
abbrev Byte := BitVec 8

/-- A 16-bit value: marker word, `Lf`, `Y`, `X` (R5). -/
abbrev Half := BitVec 16

/-- A 4-bit sampling factor, `Hi` or `Vi` (R5). -/
abbrev Nibble := BitVec 4

end Sys2Proof
end

