-- ==== Sys2Proof/Config.lean ====
section
/-! DEFINITION. The two open parameters of SOFDEC (00_scope.md R5; 92_eei_decisions.md D4, D5). -/

namespace Sys2Proof

/-- The comparison the scan loop guard uses (R5, R105). -/
inductive HasNextBound where
  /-- `position <= L` -/
  | le
  /-- `position < L` -/
  | lt
deriving DecidableEq, Repr

/-- The parameters of R5. The spec leaves both open, so they are data of the machine and a statement about every
state holds for every setting (log 1). -/
structure Config where
  /-- `LEN_W`, the width of `buf_len` and of every buffer address. -/
  lenW : Nat
  /-- `HASNEXT_BOUND`. -/
  hasNextBound : HasNextBound
deriving DecidableEq, Repr

/-- R5: any `LEN_W >= 2`. -/
abbrev Config.Ok (c : Config) : Prop := 2 ≤ c.lenW

/-- `POS_W = LEN_W + 1` (R5). -/
def Config.posW (c : Config) : Nat := c.lenW + 1

/-- The defaults of R5: `LEN_W` = 32, `HASNEXT_BOUND` = `LE`. -/
def Config.default : Config := { lenW := 32, hasNextBound := .le }

end Sys2Proof
end

