-- ==== Sys2Proof/Machine/State.lean ====
section
/-! DEFINITION. The state of SOFDEC (10_state.md R20-R32), its records (30_encoding.md R80), the inputs its steps read, and
the reasons a step can stop. -/

namespace Sys2Proof.Machine

/-- The 14 values of `STATE` (R21); codes 14 and 15 do not exist. -/
inductive Fsm where
  | idle
  | soi
  | scan
  | dMark
  | dLf
  | dP
  | dY
  | dX
  | dNf
  | dCi
  | dHv
  | dTq
  | done
  | error
deriving DecidableEq, Repr

/-- The label `KIND` (R26). -/
inductive Kind where
  | none
  | lossy
  | lossless
  | unimpl
deriving DecidableEq, Repr

/-- The error code `ERR` (R27, R200). -/
inductive ErrCode where
  | none
  | invalidSoi
  | readOor
deriving DecidableEq, Repr

/-- The nine field names of R80. -/
inductive FieldName where
  | lf
  | p
  | y
  | x
  | nf
  | ci
  | hi
  | vi
  | tqi
deriving DecidableEq, Repr

/-- One element of the output log (R80). -/
inductive Record where
  /-- `FRAME_BEGIN(marker, kind)` -/
  | frameBegin (marker : Half) (kind : Kind)
  /-- `FIELD(name, index, width, value)` -/
  | field (name : FieldName) (index : Byte) (width : Byte) (value : Half)
deriving DecidableEq, Repr

/-- What the input pins of R30 show while one step is taken (log 3, log 4). `mem_rdata` is no field: the host answers with the
byte at `mem_addr` (R233). -/
structure PinSample where
  /-- `rst` -/
  rst : Bool
  /-- `start` -/
  start : Bool
  /-- `buf_len`, of which the port carries `LEN_W` bits. -/
  bufLen : Nat
  /-- Whether the host answers the step's memory requests. -/
  memAck : Bool
  /-- Whether the host takes the records the step offers. -/
  recReady : Bool
deriving DecidableEq, Repr

/-- What a cursor operation run on its own returns to its caller (R100-R106). It is no register of R20 (log 6). -/
inductive Returned where
  /-- Nothing has been returned. -/
  | nothing
  /-- An 8-bit value (PEEK1, READ1). -/
  | byte (v : Byte)
  /-- A 16-bit value (PEEK2, READ2). -/
  | half (v : Half)
  /-- A truth value (HASNEXT, HASLOOKAHEAD). -/
  | truth (b : Bool)
deriving DecidableEq, Repr

/-- The state. `fsm` to `out` are the registers of R20; `buf` is the buffer of R50; `cfg` the parameters of R5; `pins` the
coming samples of the input pins; `ret` the model's own. -/
structure State where
  /-- The parameters, fixed for a machine: no step writes them (log 1). -/
  cfg : Config
  /-- `STATE`, 4 bits (R21). -/
  fsm : Fsm
  /-- `POS`, `POS_W` bits (R22; log 2). -/
  pos : Nat
  /-- `L`, `LEN_W` bits (R23; log 2). -/
  len : Nat
  /-- `LF`, 16 bits (R24). -/
  lf : Half
  /-- `P`, 8 bits (R24). -/
  p : Byte
  /-- `Y`, 16 bits (R24). -/
  y : Half
  /-- `X`, 16 bits (R24). -/
  x : Half
  /-- `NF`, 8 bits (R24). -/
  nf : Byte
  /-- `K`, 8 bits (R25). -/
  k : Byte
  /-- `CI`, 8 bits (R25). -/
  ci : Byte
  /-- `HI`, 4 bits (R25). -/
  hi : Nibble
  /-- `VI`, 4 bits (R25). -/
  vi : Nibble
  /-- `TQ`, 8 bits (R25). -/
  tq : Byte
  /-- `KIND`, 2 bits (R26). -/
  kind : Kind
  /-- `ERR`, 2 bits (R27). -/
  err : ErrCode
  /-- `OUT`, oldest record first (R28). -/
  out : List Record
  /-- `BUF` (R50): address and byte, addresses rising, no entry equal to what an unlisted address reads as (log 5). -/
  buf : List Host.Cell
  /-- The samples of the input pins at the coming steps, oldest first (log 3). -/
  pins : List PinSample
  /-- What the last cursor operation run on its own returned (log 6). -/
  ret : Returned
deriving DecidableEq, Repr

/-- Reasons for which the model would stop outside the spec's own fault entry. There are none: R200 lists every fault of the
block, and each is taken as R205 describes, in a next state whose `STATE` is ERROR; `MemRead` is never called outside the
buffer (R51). Safe: nothing is stopped. -/
inductive Fault where
deriving DecidableEq, Repr

/-- Reasons for which the model gives no meaning. -/
inductive Refusal where
  /-- Raised by `exec` alone, for an instruction without a meaning. No arm raises it now. Safe: nothing is claimed of such
  an instruction. -/
  | notModelled (mnemonic : String)
  /-- Raised by HASNEXT, and by the SCAN step that evaluates it, at `POS` = 0 (93_implementation_defined.md entry 2: "a model
  that evaluates it at 0 must `refuse`"; log 7). Safe: no run reaches it. -/
  | hasNextAtPositionZero
deriving DecidableEq, Repr

/-- The machine with parameters `c` right after reset (R32, R230): the buffer lists nothing and no pin sample is left. -/
def State.resetOf (c : Config) : State :=
  { cfg := c
    fsm := .idle
    pos := 0
    len := 0
    lf := 0#16
    p := 0#8
    y := 0#16
    x := 0#16
    nf := 0#8
    k := 0#8
    ci := 0#8
    hi := 0#4
    vi := 0#4
    tq := 0#8
    kind := .none
    err := .none
    out := []
    buf := []
    pins := []
    ret := .nothing }

/-- The machine right after reset, with the default parameters of R5. -/
def State.reset : State := State.resetOf Config.default

end Sys2Proof.Machine
end

