-- ==== Sys2Proof/Machine/Ops.lean ====
section
/-! DEFINITION. The named operations over the buffer and the registers (00_scope.md R8; 20_memory.md), fault entry
(60_exceptions.md R205), reset (70_reset_and_hazards.md R230) and the start of a run (43_soi_validator.md R180). -/

namespace Sys2Proof.Machine

/-- What a buffer address reads as that is not listed (log 5). -/
def Mem.unlisted : Byte := 0#8

/-- The byte at address `a`. -/
def Mem.read : List Host.Cell → Nat → Byte
  | [], _ => Mem.unlisted
  | (a', v) :: m, a => if a' = a then v else Mem.read m a

/-- Put `v` at the head of `m`, at address `a`, unless it is what an unlisted address reads as. -/
def Mem.cons (a : Nat) (v : Byte) (m : List Host.Cell) : List Host.Cell :=
  if v = Mem.unlisted then m else (a, v) :: m

/-- Write `v` at address `a`, in the canonical form. SOFDEC itself never writes (R8: "`MemWrite` is never used"); the
host does, before a run (R232). -/
def Mem.write : List Host.Cell → Nat → Byte → List Host.Cell
  | [], a, v => Mem.cons a v []
  | (a', v') :: m, a, v =>
    if a < a' then Mem.cons a v ((a', v') :: m)
    else if a = a' then Mem.cons a v m
    else (a', v') :: Mem.write m a v

/-- Write the bytes `bs` at the addresses from `a` on. -/
def Mem.writeAll : List Host.Cell → Nat → List Byte → List Host.Cell
  | m, _, [] => m
  | m, a, b :: bs => Mem.writeAll (Mem.write m a b) (a + 1) bs

/-- Every listed address of `m` is at least `a`. -/
def Mem.above (a : Nat) : List Host.Cell → Bool
  | [] => true
  | (a', _) :: _ => decide (a ≤ a')

/-- The canonical form: addresses strictly rising, nothing listed that an unlisted address reads as. -/
def Mem.wf : List Host.Cell → Bool
  | [] => true
  | (a, v) :: m => decide (v ≠ Mem.unlisted) && Mem.above (a + 1) m && Mem.wf m

/-- `MemRead(a, 1)` (R51). It is defined only for `a < L`, so a caller hands over that fact. -/
@[reducible] def State.memRead (s : State) (a : Nat) (_ : a < s.len) : Byte := Mem.read s.buf a

/-- `BE16(a)`: the byte at the lower address is the more significant (R52). -/
def State.be16 (s : State) (a : Nat) (h : a + 1 < s.len) : Half :=
  s.memRead a (by omega) ++ s.memRead (a + 1) h

/-- `STATE <- f`. -/
def State.setFsm (s : State) (f : Fsm) : State := { s with fsm := f }

/-- `POS <- a`. -/
def State.setPos (s : State) (a : Nat) : State := { s with pos := a }

/-- `LF <- v`. -/
def State.setLf (s : State) (v : Half) : State := { s with lf := v }

/-- `P <- v`. -/
def State.setP (s : State) (v : Byte) : State := { s with p := v }

/-- `Y <- v`. -/
def State.setY (s : State) (v : Half) : State := { s with y := v }

/-- `X <- v`. -/
def State.setX (s : State) (v : Half) : State := { s with x := v }

/-- `NF <- v`. -/
def State.setNf (s : State) (v : Byte) : State := { s with nf := v }

/-- `K <- v`. -/
def State.setK (s : State) (v : Byte) : State := { s with k := v }

/-- `CI <- v`. -/
def State.setCi (s : State) (v : Byte) : State := { s with ci := v }

/-- `HI <- h` and `VI <- v`. -/
def State.setHv (s : State) (h v : Nibble) : State := { s with hi := h, vi := v }

/-- `TQ <- v`. -/
def State.setTq (s : State) (v : Byte) : State := { s with tq := v }

/-- `KIND <- v`. -/
def State.setKind (s : State) (v : Kind) : State := { s with kind := v }

/-- Hand `v` to the caller of a cursor operation (log 6). -/
def State.giveBack (s : State) (v : Returned) : State := { s with ret := v }

/-- The declared width of a field (R80). -/
def FieldName.width : FieldName → Byte
  | .lf => 16#8
  | .p => 8#8
  | .y => 16#8
  | .x => 16#8
  | .nf => 8#8
  | .ci => 8#8
  | .hi => 4#8
  | .vi => 4#8
  | .tqi => 8#8

/-- `emit(rec)`: append to the output log (R8, R28). -/
def State.emit (s : State) (r : Record) : State := { s with out := s.out ++ [r] }

/-- The record of a field: its declared width, its value zero-extended to 16 bits (R80). -/
def fieldRecord (name : FieldName) (index : Byte) {w : Nat} (v : BitVec w) : Record :=
  .field name index name.width (v.setWidth 16)

/-- `emit FIELD(name, index, width, v)`. -/
def State.emitField (s : State) (name : FieldName) (index : Byte) {w : Nat} (v : BitVec w) : State :=
  s.emit (fieldRecord name index v)

/-- `raise e`: fault entry (R205). It writes `ERR` and `STATE` and nothing else. There is no return from it: only START and
reset leave ERROR (R206). -/
def State.raise (s : State) (e : ErrCode) : State := { s with err := e, fsm := .error }

/-- The reset transition (R230): every register takes its reset value; the buffer and the coming pin samples are the host's
and the parameters are fixed. -/
def State.resetBlock (s : State) : State :=
  { State.resetOf s.cfg with buf := s.buf, pins := s.pins }

/-- The effect of an accepted start command (R180). -/
def State.beginRun (s : State) (bufLen : Nat) : State :=
  { s with len := bufLen, pos := 0, kind := .none, err := .none, out := [], fsm := .soi }

/-- The host places a file in the buffer at offset 0 (R232, duty 1). -/
def State.loadFile (s : State) (file : List Byte) : State := { s with buf := Mem.writeAll [] 0 file }

end Sys2Proof.Machine
end

