-- ==== Sys2Proof/Machine/Operands.lean ====
section
/-! DEFINITION. The operand forms: the cursor's peeks, reads, advance and guards (40_cursor.md R100-R106) and the nibbles of
the sampling byte (30_encoding.md R76). -/

namespace Sys2Proof.Machine

/-- PEEK1(p) (R100): `none` stands for `raise READ_OOR`. -/
def State.peek1 (s : State) (p : Nat) : Option Byte :=
  if h : p < s.len then some (s.memRead p h) else none

/-- PEEK2(p) (R101): 0 unless `p + 2 < L`, one byte more than the access needs. -/
def State.peek2 (s : State) (p : Nat) : Half :=
  if h : p + 2 < s.len then s.be16 p (by omega) else 0#16

/-- ADVANCE() (R104). -/
def State.advance (s : State) : State := s.setPos (s.pos + 1)

/-- READ1() (R102): the byte at `POS` and the state with `POS` advanced by 1; `none` stands for `raise READ_OOR`, with
nothing advanced. -/
def State.read1 (s : State) : Option (Byte × State) :=
  match s.peek1 s.pos with
  | some v => some (v, s.setPos (s.pos + 1))
  | none => none

/-- READ2() (R103): the value at `POS` and the state with `POS` advanced by 2, in range or not. -/
def State.read2 (s : State) : Half × State := (s.peek2 s.pos, s.setPos (s.pos + 2))

/-- HASNEXT() (R105) for `POS >= 1`; `hasNextDefined` says where it may be asked. -/
def State.hasNext (s : State) : Bool :=
  match s.cfg.hasNextBound with
  | .le => decide (s.pos ≤ s.len)
  | .lt => decide (s.pos < s.len)

/-- 93_implementation_defined.md entry 2: HASNEXT has no meaning at `POS` = 0. -/
def State.hasNextDefined (s : State) : Bool := decide (s.pos ≠ 0)

/-- HASLOOKAHEAD() (R106); `POS - 10` is evaluated only when `POS > 10`. -/
def State.hasLookahead (s : State) : Bool := decide (s.pos ≤ 10) || decide (s.pos - 10 < s.len)

/-- `Hi = b[7:4]` (R76). -/
def topNibble (b : Byte) : Nibble := b.extractLsb' 4 4

/-- `Vi = b[3:0]` (R76). -/
def bottomNibble (b : Byte) : Nibble := b.extractLsb' 0 4

end Sys2Proof.Machine
end

