-- ==== Sys2Proof/Machine/Cursor.lean ====
section
/-! DEFINITION. The cursor operations run on their own (40_cursor.md R100-R106). What an operation returns goes to `ret`
(log 6). -/

namespace Sys2Proof.Machine

/-- PEEK1(p) (R100). -/
def execPeek1 (p : Nat) (s : State) : Host.Outcome State Fault Refusal :=
  match s.peek1 p with
  | some v => .next (s.giveBack (.byte v))
  | none => .next (s.raise .readOor)

/-- PEEK2(p) (R101). -/
def execPeek2 (p : Nat) (s : State) : Host.Outcome State Fault Refusal :=
  .next (s.giveBack (.half (s.peek2 p)))

/-- READ1() (R102). -/
def execRead1 (s : State) : Host.Outcome State Fault Refusal :=
  match s.read1 with
  | some (v, t) => .next (t.giveBack (.byte v))
  | none => .next (s.raise .readOor)

/-- READ2() (R103). -/
def execRead2 (s : State) : Host.Outcome State Fault Refusal :=
  .next (s.read2.2.giveBack (.half s.read2.1))

/-- ADVANCE() (R104). -/
def execAdvance (s : State) : Host.Outcome State Fault Refusal := .next s.advance

/-- HASNEXT() (R105). -/
def execHasNext (s : State) : Host.Outcome State Fault Refusal :=
  if s.hasNextDefined then .next (s.giveBack (.truth s.hasNext)) else .refused .hasNextAtPositionZero

/-- HASLOOKAHEAD() (R106). -/
def execHasLookahead (s : State) : Host.Outcome State Fault Refusal :=
  .next (s.giveBack (.truth s.hasLookahead))

end Sys2Proof.Machine
end

