-- ==== Sys2Proof/Machine/Flags.lean ====
section
/-! DEFINITION. The flags: the label of a marker (42_frame_header.md R141), the codes of `STATE`, `KIND` and `ERR`
(10_state.md R21, R26, R27) and the status outputs (R31). -/

namespace Sys2Proof.Machine

/-- The label D_MARK chooses for the marker it read (R141). -/
def kindOf (mk : Half) : Kind :=
  if mk = 0xFFC0#16 then .lossy else if mk = 0xFFC3#16 then .lossless else .unimpl

/-- The code of `STATE` (R21). -/
def Fsm.code : Fsm → BitVec 4
  | .idle => 0#4
  | .soi => 1#4
  | .scan => 2#4
  | .dMark => 3#4
  | .dLf => 4#4
  | .dP => 5#4
  | .dY => 6#4
  | .dX => 7#4
  | .dNf => 8#4
  | .dCi => 9#4
  | .dHv => 10#4
  | .dTq => 11#4
  | .done => 12#4
  | .error => 13#4

/-- The value of `STATE` with a code; codes 14 and 15 have none (R21). -/
def Fsm.ofCode (c : BitVec 4) : Option Fsm :=
  match c.toNat with
  | 0 => some .idle
  | 1 => some .soi
  | 2 => some .scan
  | 3 => some .dMark
  | 4 => some .dLf
  | 5 => some .dP
  | 6 => some .dY
  | 7 => some .dX
  | 8 => some .dNf
  | 9 => some .dCi
  | 10 => some .dHv
  | 11 => some .dTq
  | 12 => some .done
  | 13 => some .error
  | _ => none

/-- The idle states, in which no step is enabled (R9, R21). -/
def Fsm.isIdle (f : Fsm) : Bool := decide (f = .idle) || decide (f = .done) || decide (f = .error)

/-- The code of `KIND` (R26). -/
def Kind.code : Kind → BitVec 2
  | .none => 0#2
  | .lossy => 1#2
  | .lossless => 2#2
  | .unimpl => 3#2

/-- The value of `KIND` with a code (R26). -/
def Kind.ofCode (c : BitVec 2) : Kind :=
  match c.toNat with
  | 0 => .none
  | 1 => .lossy
  | 2 => .lossless
  | _ => .unimpl

/-- The code of `ERR` (R27, R200). -/
def ErrCode.code : ErrCode → BitVec 2
  | .none => 0#2
  | .invalidSoi => 1#2
  | .readOor => 2#2

/-- The output `busy` (R31). -/
def State.busy (s : State) : Bool := !s.fsm.isIdle

/-- The output `done` (R31). -/
def State.doneOut (s : State) : Bool := decide (s.fsm = .done)

/-- The output `error` (R31). -/
def State.errorOut (s : State) : Bool := decide (s.fsm = .error)

/-- The output `err_code` (R31). -/
def State.errCodeOut (s : State) : BitVec 2 := s.err.code

/-- The output `state` (R31). -/
def State.stateOut (s : State) : BitVec 4 := s.fsm.code

/-- The output `kind` (R31). -/
def State.kindOut (s : State) : BitVec 2 := s.kind.code

/-- The output `pos` (R31), `POS_W` bits. -/
def State.posOut (s : State) : BitVec s.cfg.posW := BitVec.ofNat s.cfg.posW s.pos

end Sys2Proof.Machine
end

