-- ==== Sys2Proof/Machine/FrameHeader.lean ====
section
/-! DEFINITION. The frame header decoder, one field read a step (42_frame_header.md R141-R149). -/

namespace Sys2Proof.Machine

/-- A step that reads one byte: `f` says what it does with the byte and the advanced state; out of range it takes the fault
READ_OOR and does nothing else (R102, R205). -/
def withRead1 (s : State) (f : Byte → State → State) : Host.Outcome State Fault Refusal :=
  match s.read1 with
  | some (v, t) => .next (f v t)
  | none => .next (s.raise .readOor)

/-- A step that reads two bytes (R103). -/
def withRead2 (s : State) (f : Half → State → State) : Host.Outcome State Fault Refusal :=
  .next (f s.read2.1 s.read2.2)

/-- D_MARK (R141). -/
def execDMark (s : State) : Host.Outcome State Fault Refusal :=
  withRead2 s fun mk t => ((t.setKind (kindOf mk)).emit (.frameBegin mk (kindOf mk))).setFsm .dLf

/-- D_LF (R142). -/
def execDLf (s : State) : Host.Outcome State Fault Refusal :=
  withRead2 s fun v t => ((t.setLf v).emitField .lf 0#8 v).setFsm .dP

/-- D_P (R143). -/
def execDP (s : State) : Host.Outcome State Fault Refusal :=
  withRead1 s fun v t => ((t.setP v).emitField .p 0#8 v).setFsm .dY

/-- D_Y (R144). -/
def execDY (s : State) : Host.Outcome State Fault Refusal :=
  withRead2 s fun v t => ((t.setY v).emitField .y 0#8 v).setFsm .dX

/-- D_X (R145). -/
def execDX (s : State) : Host.Outcome State Fault Refusal :=
  withRead2 s fun v t => ((t.setX v).emitField .x 0#8 v).setFsm .dNf

/-- D_NF (R146): without components the segment is done. -/
def execDNf (s : State) : Host.Outcome State Fault Refusal :=
  withRead1 s fun v t =>
    (((t.setNf v).setK 0#8).emitField .nf 0#8 v).setFsm (if v = 0#8 then .scan else .dCi)

/-- D_CI (R147). -/
def execDCi (s : State) : Host.Outcome State Fault Refusal :=
  withRead1 s fun v t => ((t.setCi v).emitField .ci s.k v).setFsm .dHv

/-- D_HV (R148): `Hi` is emitted before `Vi`. -/
def execDHv (s : State) : Host.Outcome State Fault Refusal :=
  withRead1 s fun b t =>
    (((t.setHv (topNibble b) (bottomNibble b)).emitField .hi s.k (topNibble b)).emitField .vi s.k
      (bottomNibble b)).setFsm .dTq

/-- What D_TQ does after its record: the last component ends the segment, another starts the next component; `K + 1` is
computed in 9 bits (R149). -/
def State.nextComponent (s : State) : State :=
  if s.k.toNat + 1 = s.nf.toNat then s.setFsm .scan else (s.setK (s.k + 1#8)).setFsm .dCi

/-- D_TQ (R149): the selector is recorded unmasked (R77). -/
def execDTq (s : State) : Host.Outcome State Fault Refusal :=
  withRead1 s fun v t => ((t.setTq v).emitField .tqi s.k v).nextComponent

end Sys2Proof.Machine
end

