-- ==== Sys2Proof/Syntax.lean ====
section
/-! DEFINITION. One constructor per row of spec/opcode_table.json. -/

namespace Sys2Proof

/-- The operations of SOFDEC: five marker word classes, the start command, the eleven FSM steps and the seven cursor
operations. -/
inductive Instr where
  /-- FILLER (R122); `w` is the marker word that selected it. -/
  | filler (w : Half)
  /-- FILLER_FFFF (R123), selected by 0xFFFF alone. -/
  | fillerFfff
  /-- SOF0 (R124), selected by 0xFFC0 alone. -/
  | sof0
  /-- SOF3 (R125), selected by 0xFFC3 alone. -/
  | sof3
  /-- OTHER_MARKER (R126); `w` is the marker word that selected it. -/
  | otherMarker (w : Half)
  /-- START (R180); `bufLen` is the value of the `buf_len` input, `LEN_W` bits. -/
  | start (bufLen : Nat)
  /-- SOI (R181). -/
  | soi
  /-- SCAN (R121). -/
  | scan
  /-- D_MARK (R141). -/
  | dMark
  /-- D_LF (R142). -/
  | dLf
  /-- D_P (R143). -/
  | dP
  /-- D_Y (R144). -/
  | dY
  /-- D_X (R145). -/
  | dX
  /-- D_NF (R146). -/
  | dNf
  /-- D_CI (R147). -/
  | dCi
  /-- D_HV (R148). -/
  | dHv
  /-- D_TQ (R149). -/
  | dTq
  /-- PEEK1(p) (R100). -/
  | peek1 (p : Nat)
  /-- PEEK2(p) (R101). -/
  | peek2 (p : Nat)
  /-- READ1() (R102). -/
  | read1
  /-- READ2() (R103). -/
  | read2
  /-- ADVANCE() (R104). -/
  | advance
  /-- HASNEXT() (R105). -/
  | hasNext
  /-- HASLOOKAHEAD() (R106). -/
  | hasLookahead
deriving DecidableEq, Repr

end Sys2Proof
end

