-- ==== Sys2Proof/WellFormed.lean ====
section
/-! DEFINITION. Which operands an operation can carry (30_encoding.md R71; 43_soi_validator.md R180; 40_cursor.md R100,
R101). -/

namespace Sys2Proof

/-- R71: the words of the class FILLER. -/
def isFillerWord (w : Half) : Bool := decide (w.toNat ≤ 0xFF01)

/-- R71: the words of the class OTHER_MARKER. -/
def isOtherMarkerWord (w : Half) : Bool :=
  decide (0xFF02 ≤ w.toNat) && decide (w.toNat ≤ 0xFFFE) && decide (w ≠ 0xFFC0#16) && decide (w ≠ 0xFFC3#16)

/-- An operation's operands are ones the machine with parameters `c` can give it: a marker word of its class,
a buffer length of `LEN_W` bits, a position of `POS_W` bits. -/
def Instr.wellFormed (c : Config) : Instr → Bool
  | .filler w => isFillerWord w
  | .fillerFfff => true
  | .sof0 => true
  | .sof3 => true
  | .otherMarker w => isOtherMarkerWord w
  | .start n => decide (n < 2 ^ c.lenW)
  | .soi => true
  | .scan => true
  | .dMark => true
  | .dLf => true
  | .dP => true
  | .dY => true
  | .dX => true
  | .dNf => true
  | .dCi => true
  | .dHv => true
  | .dTq => true
  | .peek1 p => decide (p < 2 ^ c.posW)
  | .peek2 p => decide (p < 2 ^ c.posW)
  | .read1 => true
  | .read2 => true
  | .advance => true
  | .hasNext => true
  | .hasLookahead => true

end Sys2Proof
end

