-- ==== Sys2Proof/Decode.lean ====
section
/-! DEFINITION. What selects an operation (30_encoding.md R70-R72; 10_state.md R21; opcode_table.json), the decoder, and
the encoder. The cursor operations have no encoding (opcode_table.json: "not selected by any encoding"). -/

namespace Sys2Proof

/-- What selects an operation, one constructor per format of opcode_table.json that has an encoding. -/
inductive OpCode where
  /-- `marker_word_16`: the word `PEEK2(POS)`. -/
  | markerWord (w : Half)
  /-- `fsm_state`: the register `STATE`, 4 bits. -/
  | fsmState (code : BitVec 4)
  /-- `command`: the inputs `start` and `buf_len`. -/
  | command (start : Bool) (bufLen : Nat)
deriving DecidableEq, Repr

/-- Why a code selects no operation. -/
inductive DecodeError where
  /-- `STATE` is IDLE, DONE or ERROR: no step is enabled (R9, R21). -/
  | idleState
  /-- `STATE` codes 14 and 15, never written (R21). -/
  | reservedState
  /-- `start` is 0: no command (R180). -/
  | noCommand
  /-- Fewer than two bytes where a marker word is wanted. -/
  | wordTooShort
  /-- More bits than the 4 of `STATE`. -/
  | stateTooWide
  /-- No row of the table has this many bits. -/
  | noSuchFormat
deriving DecidableEq, Repr

/-- The five classes of R71. -/
inductive MarkerClass where
  | filler
  | fillerFfff
  | sof0
  | sof3
  | otherMarker
deriving DecidableEq, Repr

/-- The class of a marker word, tested in the order of R71. -/
def classify (w : Half) : MarkerClass :=
  if w.toNat ≤ 0xFF01 then .filler
  else if w = 0xFFFF#16 then .fillerFfff
  else if w = 0xFFC0#16 then .sof0
  else if w = 0xFFC3#16 then .sof3
  else .otherMarker

/-- The (match, mask) rows of R72. -/
def maskRows : MarkerClass → List (Half × Half)
  | .filler =>
    [(0x0000#16, 0x8000#16), (0x8000#16, 0xC000#16), (0xC000#16, 0xE000#16), (0xE000#16, 0xF000#16), (0xF000#16, 0xF800#16), (0xF800#16, 0xFC00#16),
     (0xFC00#16, 0xFE00#16), (0xFE00#16, 0xFF00#16), (0xFF00#16, 0xFFFE#16)]
  | .fillerFfff => [(0xFFFF#16, 0xFFFF#16)]
  | .sof0 => [(0xFFC0#16, 0xFFFF#16)]
  | .sof3 => [(0xFFC3#16, 0xFFFF#16)]
  | .otherMarker =>
    [(0xFF02#16, 0xFFFE#16), (0xFF04#16, 0xFFFC#16), (0xFF08#16, 0xFFF8#16), (0xFF10#16, 0xFFF0#16), (0xFF20#16, 0xFFE0#16), (0xFF40#16, 0xFFC0#16),
     (0xFF80#16, 0xFFC0#16), (0xFFC1#16, 0xFFFF#16), (0xFFC2#16, 0xFFFF#16)] ++
    [(0xFFC4#16, 0xFFFC#16), (0xFFC8#16, 0xFFF8#16), (0xFFD0#16, 0xFFF0#16), (0xFFE0#16, 0xFFF0#16), (0xFFF0#16, 0xFFF8#16), (0xFFF8#16, 0xFFFC#16),
     (0xFFFC#16, 0xFFFE#16), (0xFFFE#16, 0xFFFF#16)]

/-- R72: a row `(match, mask)` selects `w` when `w & mask = match`. -/
def rowSelects (w : Half) (row : Half × Half) : Bool := decide (w &&& row.2 = row.1)

/-- The operation a marker word selects. Every word selects one (R70, R74). -/
def decodeMarker (w : Half) : Instr :=
  match classify w with
  | .filler => .filler w
  | .fillerFfff => .fillerFfff
  | .sof0 => .sof0
  | .sof3 => .sof3
  | .otherMarker => .otherMarker w

/-- The step a `STATE` code selects (R21). -/
def decodeFsm (code : BitVec 4) : Except DecodeError Instr :=
  match code.toNat with
  | 1 => .ok .soi
  | 2 => .ok .scan
  | 3 => .ok .dMark
  | 4 => .ok .dLf
  | 5 => .ok .dP
  | 6 => .ok .dY
  | 7 => .ok .dX
  | 8 => .ok .dNf
  | 9 => .ok .dCi
  | 10 => .ok .dHv
  | 11 => .ok .dTq
  | 14 => .error .reservedState
  | 15 => .error .reservedState
  | _ => .error .idleState

/-- The decoder: what an operation's code selects. -/
def decode : OpCode → Except DecodeError Instr
  | .markerWord w => .ok (decodeMarker w)
  | .fsmState code => decodeFsm code
  | .command true n => .ok (.start n)
  | .command false _ => .error .noCommand

/-- A marker word from the buffer's bytes in address order, the more significant first (R52), with the bytes after
it. -/
def decodeBytes : List Byte → Except DecodeError (Instr × List Byte)
  | hi :: lo :: rest => .ok (decodeMarker (hi ++ lo), rest)
  | _ => .error .wordTooShort

/-- The encoder, from R71, R21 and R180. A cursor operation has no code. -/
def encode : Instr → Option OpCode
  | .filler w => some (.markerWord w)
  | .fillerFfff => some (.markerWord 0xFFFF#16)
  | .sof0 => some (.markerWord 0xFFC0#16)
  | .sof3 => some (.markerWord 0xFFC3#16)
  | .otherMarker w => some (.markerWord w)
  | .start n => some (.command true n)
  | .soi => some (.fsmState 1#4)
  | .scan => some (.fsmState 2#4)
  | .dMark => some (.fsmState 3#4)
  | .dLf => some (.fsmState 4#4)
  | .dP => some (.fsmState 5#4)
  | .dY => some (.fsmState 6#4)
  | .dX => some (.fsmState 7#4)
  | .dNf => some (.fsmState 8#4)
  | .dCi => some (.fsmState 9#4)
  | .dHv => some (.fsmState 10#4)
  | .dTq => some (.fsmState 11#4)
  | .peek1 _ => none
  | .peek2 _ => none
  | .read1 => none
  | .read2 => none
  | .advance => none
  | .hasNext => none
  | .hasLookahead => none

/-- A table word as the hardware holds it: a row of 16 bits is the marker word, two bytes big-endian in the buffer; a
row of at most 8 bits is the `STATE` code. -/
def decodeTable (nbits w : Nat) : Except DecodeError Instr :=
  if nbits ≤ 8 then
    if w < 16 then decodeFsm (BitVec.ofNat 4 w) else .error .stateTooWide
  else if nbits ≤ 16 then
    match decodeBytes [BitVec.ofNat 8 (w / 256), BitVec.ofNat 8 w] with
    | .ok (i, _) => .ok i
    | .error e => .error e
  else .error .noSuchFormat

/-- The instruction the decoder reads from a table word. -/
def decodeTableWord (nbits w : Nat) : Option Instr :=
  match decodeTable nbits w with
  | .ok i => some i
  | .error _ => none

end Sys2Proof
end

