-- ==== Sys2Proof/Machine/Scanner.lean ====
section
/-! DEFINITION. The marker word classes and the SCAN step (41_scanner.md R121-R127). -/

namespace Sys2Proof.Machine

/-- FILLER (R122): skip one byte; `STATE` stays. -/
def execFiller (_w : Half) (s : State) : Host.Outcome State Fault Refusal := .next s.advance

/-- FILLER_FFFF (R123): skip one byte; `STATE` stays. -/
def execFillerFfff (s : State) : Host.Outcome State Fault Refusal := .next s.advance

/-- SOF0 (R124): enter the frame header decoder with `POS` at the marker. -/
def execSof0 (s : State) : Host.Outcome State Fault Refusal := .next (s.setFsm .dMark)

/-- SOF3 (R125): enter the frame header decoder with `POS` at the marker. -/
def execSof3 (s : State) : Host.Outcome State Fault Refusal := .next (s.setFsm .dMark)

/-- OTHER_MARKER (R126): skip one byte; `STATE` stays. -/
def execOtherMarker (_w : Half) (s : State) : Host.Outcome State Fault Refusal := .next s.advance

/-- The branch of the SCAN step a marker word selects (R121). -/
def scanBranch (w : Half) (s : State) : Host.Outcome State Fault Refusal :=
  match classify w with
  | .filler => execFiller w s
  | .fillerFfff => execFillerFfff s
  | .sof0 => execSof0 s
  | .sof3 => execSof3 s
  | .otherMarker => execOtherMarker w s

/-- SCAN (R121, R127). -/
def execScan (s : State) : Host.Outcome State Fault Refusal :=
  if s.hasNextDefined then
    if s.hasNext then scanBranch (s.peek2 s.pos) s else .next (s.setFsm .done)
  else .refused .hasNextAtPositionZero

end Sys2Proof.Machine
end

