-- ==== Sys2Proof/Machine/Start.lean ====
section
/-! DEFINITION. The start command and the start-of-image gate (43_soi_validator.md R180, R181). -/

namespace Sys2Proof.Machine

/-- START (R180): accepted in IDLE, DONE and ERROR; ignored while busy. -/
def execStart (bufLen : Nat) (s : State) : Host.Outcome State Fault Refusal :=
  if s.fsm.isIdle then .next (s.beginRun bufLen) else .next s

/-- `L >= 2` and the first two bytes are FF D8: an exact bound, not PEEK2 (R181). -/
def State.hasSoi (s : State) : Bool :=
  if h : 2 ≤ s.len then decide (s.memRead 0 (by omega) = 0xFF#8) && decide (s.memRead 1 (by omega) = 0xD8#8)
  else false

/-- SOI (R181). -/
def execSoi (s : State) : Host.Outcome State Fault Refusal :=
  if s.hasSoi then .next ((s.setPos 2).setFsm .scan) else .next (s.raise .invalidSoi)

end Sys2Proof.Machine
end

