-- ==== Sys2Proof/Machine/Dispatch.lean ====
section
/-! DEFINITION. The meaning of each operation, one arm per constructor. -/

namespace Sys2Proof.Machine

def exec (i : Instr) (s : State) : Host.Outcome State Fault Refusal :=
  match i with
  | .filler w => Sys2Proof.Machine.execFiller w s
  | .fillerFfff => Sys2Proof.Machine.execFillerFfff s
  | .sof0 => Sys2Proof.Machine.execSof0 s
  | .sof3 => Sys2Proof.Machine.execSof3 s
  | .otherMarker w => Sys2Proof.Machine.execOtherMarker w s
  | .start bufLen => Sys2Proof.Machine.execStart bufLen s
  | .soi => Sys2Proof.Machine.execSoi s
  | .scan => Sys2Proof.Machine.execScan s
  | .dMark => Sys2Proof.Machine.execDMark s
  | .dLf => Sys2Proof.Machine.execDLf s
  | .dP => Sys2Proof.Machine.execDP s
  | .dY => Sys2Proof.Machine.execDY s
  | .dX => Sys2Proof.Machine.execDX s
  | .dNf => Sys2Proof.Machine.execDNf s
  | .dCi => Sys2Proof.Machine.execDCi s
  | .dHv => Sys2Proof.Machine.execDHv s
  | .dTq => Sys2Proof.Machine.execDTq s
  | .peek1 p => Sys2Proof.Machine.execPeek1 p s
  | .peek2 p => Sys2Proof.Machine.execPeek2 p s
  | .read1 => Sys2Proof.Machine.execRead1 s
  | .read2 => Sys2Proof.Machine.execRead2 s
  | .advance => Sys2Proof.Machine.execAdvance s
  | .hasNext => Sys2Proof.Machine.execHasNext s
  | .hasLookahead => Sys2Proof.Machine.execHasLookahead s

end Sys2Proof.Machine
end

