-- ==== Sys2Proof/Machine/Ports.lean ====
section
/-! DEFINITION. The memory and record ports (10_state.md R30; 20_memory.md R51; 30_encoding.md R81). -/

namespace Sys2Proof.Machine

/-- The identifier of a field on the record port (R80). -/
def FieldName.id : FieldName → BitVec 4
  | .lf => 0#4
  | .p => 1#4
  | .y => 2#4
  | .x => 3#4
  | .nf => 4#4
  | .ci => 5#4
  | .hi => 6#4
  | .vi => 7#4
  | .tqi => 8#4

/-- The field with an identifier; 9 to 15 have none (R81). -/
def FieldName.ofId (c : BitVec 4) : Option FieldName :=
  match c.toNat with
  | 0 => some .lf
  | 1 => some .p
  | 2 => some .y
  | 3 => some .x
  | 4 => some .nf
  | 5 => some .ci
  | 6 => some .hi
  | 7 => some .vi
  | 8 => some .tqi
  | _ => none

/-- The 48 bits of a record on `rec_data` (R81), the most significant group first. -/
def Record.toBits : Record → BitVec 48
  | .frameBegin marker kind => 0#4 ++ 0#2 ++ kind.code ++ 0#24 ++ marker
  | .field name index width value =>
    1#4 ++ name.id ++ index ++ width ++ 0#8 ++ value

/-- Read a record off its 48 bits without asking whether the fixed bits are as R81 has them. -/
def Record.parse (w : BitVec 48) : Option Record :=
  if w.extractLsb' 44 4 = 0#4 then some (.frameBegin (w.extractLsb' 0 16) (Kind.ofCode (w.extractLsb' 40 2)))
  else
    match FieldName.ofId (w.extractLsb' 40 4) with
    | some name => some (.field name (w.extractLsb' 32 8) (w.extractLsb' 24 8) (w.extractLsb' 0 16))
    | none => none

/-- The record 48 bits show; `none` for the reserved tags and field ids (R81; 93_implementation_defined.md entry 13).
DESIGN CHOICE (log 14), where the spec says nothing of a word the block never emits: a word with a bit set that R81 gives as
0 reads as `none`; a word of the layout of R81 reads as the record of its bits whatever they hold, so also a frame record
with kind NONE or a label other than its marker's, and a field record with a width other than the field's declared one, an
index where the field has none, or a value too wide. `Record.wf` tells these from the records the block can emit. -/
def Record.ofBits (w : BitVec 48) : Option Record :=
  match Record.parse w with
  | some r => if r.toBits = w then some r else none
  | none => none

/-- The addresses PEEK1(p) asks for: none outside the buffer (R100). -/
def State.peek1Reads (s : State) (p : Nat) : List Nat := if p < s.len then [p] else []

/-- The addresses PEEK2(p) asks for, in address order (R55, R101). -/
def State.peek2Reads (s : State) (p : Nat) : List Nat := if p + 2 < s.len then [p, p + 1] else []

/-- The `mem_addr` of each `MemRead` an operation issues, in order (R30, R51, R55). The word of a marker class was peeked by
the SCAN step.
DESIGN CHOICE (log 15): at `POS` = 0 the SCAN step asks for the bytes its guard would let it peek, so that a step whose read is
not answered holds there, before the refusal of log 7 is met; the spec does not order the two. -/
def State.memReads (s : State) : Instr → List Nat
  | .filler _ => []
  | .fillerFfff => []
  | .sof0 => []
  | .sof3 => []
  | .otherMarker _ => []
  | .start _ => []
  | .soi => if 2 ≤ s.len then [0, 1] else []
  | .scan => if s.hasNext then s.peek2Reads s.pos else []
  | .dMark => s.peek2Reads s.pos
  | .dLf => s.peek2Reads s.pos
  | .dP => s.peek1Reads s.pos
  | .dY => s.peek2Reads s.pos
  | .dX => s.peek2Reads s.pos
  | .dNf => s.peek1Reads s.pos
  | .dCi => s.peek1Reads s.pos
  | .dHv => s.peek1Reads s.pos
  | .dTq => s.peek1Reads s.pos
  | .peek1 p => s.peek1Reads p
  | .peek2 p => s.peek2Reads p
  | .read1 => s.peek1Reads s.pos
  | .read2 => s.peek2Reads s.pos
  | .advance => []
  | .hasNext => []
  | .hasLookahead => []

end Sys2Proof.Machine
end

