-- ==== Sys2Proof/Machine/Fetch.lean ====
section
/-! DEFINITION. Which operation a step runs (00_scope.md R9; 43_soi_validator.md R180), whether the host lets it complete
(10_state.md R30; 70_reset_and_hazards.md R233), and how a table word is put where the next step finds it. -/

namespace Sys2Proof.Machine

/-- The pins when no sample is left: no reset, no start, and a host that meets its duties (log 3, log 4). -/
def PinSample.rest : PinSample := { rst := false, start := false, bufLen := 0, memAck := true, recReady := true }

/-- The pins the coming step sees. -/
def State.pinsNow (s : State) : PinSample :=
  match s.pins with
  | [] => PinSample.rest
  | p :: _ => p

/-- The state with the sample of the coming step used up. -/
def State.popPins (s : State) : State := { s with pins := s.pins.tail }

/-- The value the port `buf_len` carries: `LEN_W` bits (R30). -/
def State.bufLenNow (s : State) : Nat := s.pinsNow.bufLen % 2 ^ s.cfg.lenW

/-- The code that selects the coming step's operation: the start command while idle, else `STATE` (R9, R180). -/
def State.selector (s : State) : OpCode :=
  if s.fsm.isIdle && s.pinsNow.start then .command true s.bufLenNow else .fsmState s.fsm.code

/-- The operation the coming step runs; `none` where no step is enabled (R9). -/
def State.select (s : State) : Option Instr :=
  match decode s.selector with
  | .ok i => some i
  | .error _ => none

/-- The records an operation offers on the record port: those it appends to `OUT` (R28, R30). -/
def State.recOffered (s : State) (i : Instr) : List Record :=
  match exec i s with
  | .next t => t.out.drop s.out.length
  | .fault _ => []
  | .refused _ => []

/-- The output `mem_req` in a step that runs `i` (R30). -/
def State.memReq (s : State) (i : Instr) : Bool := !(s.memReads i).isEmpty

/-- The output `rec_valid` in a step that runs `i` (R30). -/
def State.recValid (s : State) (i : Instr) : Bool := !(s.recOffered i).isEmpty

/-- The host does not answer a read, or does not take a record, of the coming step: it does not complete (R30, R233;
log 4; log 15 for SCAN at `POS` = 0). -/
def State.stalled (s : State) (i : Instr) : Bool :=
  (s.memReq i && !s.pinsNow.memAck) || (s.recValid i && !s.pinsNow.recReady)

/-- Put the marker word `w` at `POS`, in a SCAN state that peeks it: `POS` >= 1 and `POS + 2 < L`. -/
def State.placeMarker (s : State) (w : Nat) : State :=
  let a := if s.pos = 0 then 2 else s.pos
  { s with
    fsm := .scan
    pos := a
    len := max s.len (a + 3)
    buf := Mem.write (Mem.write s.buf a (BitVec.ofNat 8 (w / 256))) (a + 1) (BitVec.ofNat 8 w)
    pins := [] }

/-- Put the code `w` in `STATE`; a code that names no state changes nothing. -/
def State.placeFsm (s : State) (w : Nat) : State :=
  match Fsm.ofCode (BitVec.ofNat 4 w) with
  | some f => { s with fsm := f, pins := [] }
  | none => s

/-- Put a table word where the next step finds it: a row of at most 8 bits in `STATE`, a row of 16 bits in the buffer. -/
def State.placeWord (s : State) (nbits w : Nat) : State :=
  if nbits ≤ 8 then s.placeFsm w else if nbits ≤ 16 then s.placeMarker w else s

end Sys2Proof.Machine
end

