-- ==== Sys2Proof/Machine/Step.lean ====
section
/-! DEFINITION. One step (00_scope.md R9; 70_reset_and_hazards.md R230), and the host's way to place a table word. -/

namespace Sys2Proof.Machine

/-- One step: it uses up one pin sample; reset wins (R230); where no step is enabled the block waits (R9); a step the host
does not let complete holds (R233); any other step is the meaning of the operation selected. -/
def step (s : State) : Host.Outcome State Fault Refusal :=
  if s.pinsNow.rst then .next s.popPins.resetBlock
  else
    match s.select with
    | none => .next s.popPins
    | some i => if s.stalled i then .next s.popPins else exec i s.popPins

/-- `s` with a table word placed so that the next step runs it. -/
def State.withFetchWord (s : State) (nbits w : Nat) : State := s.placeWord nbits w

end Sys2Proof.Machine
end

