-- ==== Sys2Proof/Machine/Segment.lean ====
section
/-! DEFINITION. The layout of a frame header segment (30_encoding.md R75, R79), the record sequence of one decode
(42_frame_header.md R151), and the input notation SOFn(...) (R83). -/

namespace Sys2Proof.Machine

/-- The two bytes at `a` and `a + 1`, big-endian (R52). -/
def bufHalf (buf : List Host.Cell) (a : Nat) : Half := Mem.read buf a ++ Mem.read buf (a + 1)

/-- `Nf` of the segment at `m`: offset 9 (R75). -/
def segNf (buf : List Host.Cell) (m : Nat) : Byte := Mem.read buf (m + 9)

/-- The bytes a decoder consumes from the segment at `m` (R79). -/
def segLength (buf : List Host.Cell) (m : Nat) : Nat := 10 + 3 * (segNf buf m).toNat

/-- The records of the fixed fields of the segment at `m` (R75, R151). -/
def fixedRecords (buf : List Host.Cell) (m : Nat) : List Record :=
  [.frameBegin (bufHalf buf m) (kindOf (bufHalf buf m)),
   fieldRecord .lf 0#8 (bufHalf buf (m + 2)),
   fieldRecord .p 0#8 (Mem.read buf (m + 4)),
   fieldRecord .y 0#8 (bufHalf buf (m + 5)),
   fieldRecord .x 0#8 (bufHalf buf (m + 7)),
   fieldRecord .nf 0#8 (segNf buf m)]

/-- The records of component `j` of the segment at `m` (R75, R151). -/
def componentRecords (buf : List Host.Cell) (m j : Nat) : List Record :=
  [fieldRecord .ci (BitVec.ofNat 8 j) (Mem.read buf (m + 10 + 3 * j)),
   fieldRecord .hi (BitVec.ofNat 8 j) (topNibble (Mem.read buf (m + 11 + 3 * j))),
   fieldRecord .vi (BitVec.ofNat 8 j) (bottomNibble (Mem.read buf (m + 11 + 3 * j))),
   fieldRecord .tqi (BitVec.ofNat 8 j) (Mem.read buf (m + 12 + 3 * j))]

/-- The records of components `j`, `j + 1`, … , `n` of them. -/
def componentRecordsFrom (buf : List Host.Cell) (m : Nat) : Nat → Nat → List Record
  | _, 0 => []
  | j, n + 1 => componentRecords buf m j ++ componentRecordsFrom buf m (j + 1) n

/-- The record sequence of a whole decode of the segment at `m` (R151). -/
def headerRecords (buf : List Host.Cell) (m : Nat) : List Record :=
  fixedRecords buf m ++ componentRecordsFrom buf m 0 (segNf buf m).toNat

/-- How many records a decode has emitted that faults with `t` component bytes read: `Ci` gives one, the sampling byte two,
`Tqi` one (R151, R153). -/
def recordsBeforeFault (t : Nat) : Nat :=
  6 + 4 * (t / 3) + (match t % 3 with | 0 => 0 | 1 => 1 | _ => 3)

/-- The records of a decode of the segment at `m` that is cut off after `r` bytes (R153). -/
def truncatedRecords (buf : List Host.Cell) (m r : Nat) : List Record :=
  if r < 5 then
    [.frameBegin (bufHalf buf m) (kindOf (bufHalf buf m)), fieldRecord .lf 0#8 0#16]
  else if r < 8 then
    (fixedRecords buf m).take 3 ++ [fieldRecord .y 0#8 0#16, fieldRecord .x 0#8 0#16]
  else if r < 10 then
    (fixedRecords buf m).take 4 ++ [fieldRecord .x 0#8 0#16]
  else (headerRecords buf m).take (recordsBeforeFault (r - 10))

/-- The offset of the byte at which a decode faults that is cut off after `r` bytes (R153). -/
def faultOffset (r : Nat) : Nat := if r < 5 then 4 else if r < 10 then 9 else r

/-- A component of the notation SOFn(...) (R83). -/
structure Component where
  /-- `Cj` -/
  c : Byte
  /-- `Hj` -/
  h : Nibble
  /-- `Vj` -/
  v : Nibble
  /-- `Tj` -/
  t : Byte
deriving DecidableEq, Repr

/-- The two bytes of a 16-bit value, big-endian (R83). -/
def halfBytes (v : Half) : List Byte := [v.extractLsb' 8 8, v.extractLsb' 0 8]

/-- The three bytes of a component (R83). -/
def Component.bytes (q : Component) : List Byte := [q.c, q.h ++ q.v, q.t]

/-- `SOI` (R83). -/
def soiBytes : List Byte := [0xFF#8, 0xD8#8]

/-- `SOFn(Lf, P, Y, X, [...])` with the marker `mk` (R83); `Nf` is the number of components. -/
def sofBytes (mk lf : Half) (p : Byte) (y x : Half) (cs : List Component) : List Byte :=
  halfBytes mk ++ halfBytes lf ++ [p] ++ halfBytes y ++ halfBytes x ++ [BitVec.ofNat 8 cs.length] ++
    cs.flatMap Component.bytes

end Sys2Proof.Machine
end

