-- ==== Sys2Proof/Safety.lean ====
section
/-! DEFINITION. What claims are stated in: the end of a run and its observation (60_exceptions.md R206; 70_reset_and_hazards.md
R237), well-formed records, the invariant of a run, and which registers an operation writes. -/

namespace Sys2Proof.Machine

/-- A run that ended normally (R237). -/
abbrev State.EndedNormally (s : State) : Prop := s.fsm = .done

/-- A run that ended by a fault; it is never a normal end (R206). -/
abbrev State.Faulted (s : State) : Prop := s.fsm = .error

/-- The run is over (R237). -/
abbrev State.RunOver (s : State) : Prop := s.EndedNormally ∨ s.Faulted

/-- The observation of a run (R237). -/
def State.observation (s : State) : Fsm × ErrCode × Nat × List Record := (s.fsm, s.err, s.pos, s.out)

/-- The fields that carry a component index (R80). -/
def FieldName.ofComponent : FieldName → Bool
  | .lf => false
  | .p => false
  | .y => false
  | .x => false
  | .nf => false
  | .ci => true
  | .hi => true
  | .vi => true
  | .tqi => true

/-- A record the block can emit: a frame record carries one of the two dispatched markers with its label, a field record its
declared width, index 0 unless it is a component's, and a value of its width (R80, R140, R141). -/
def Record.wf : Record → Bool
  | .frameBegin mk kind =>
    (decide (mk = 0xFFC0#16) && decide (kind = .lossy)) || (decide (mk = 0xFFC3#16) && decide (kind = .lossless))
  | .field name index width value =>
    decide (width = name.width) && (name.ofComponent || decide (index = 0#8)) &&
      decide (value.toNat < 2 ^ name.width.toNat)

/-- How far `POS` may stand past `L` in SCAN: 1 under `LE`, 0 under `LT` (R127). -/
def slack (c : Config) : Nat :=
  match c.hasNextBound with
  | .le => 1
  | .lt => 0

/-- Where `POS` can stand in each state of a run (R22, R127, R140, R153). -/
abbrev State.PosOk (s : State) : Prop :=
  (s.fsm = .idle → s.pos = 0) ∧
  (s.fsm = .soi → s.pos = 0) ∧
  (s.fsm = .scan → 2 ≤ s.pos ∧ s.pos ≤ s.len + slack s.cfg) ∧
  (s.fsm = .dMark → 2 ≤ s.pos ∧ s.pos + 2 < s.len ∧ (s.peek2 s.pos = 0xFFC0#16 ∨ s.peek2 s.pos = 0xFFC3#16)) ∧
  (s.fsm = .dLf → 4 ≤ s.pos ∧ s.pos < s.len) ∧
  (s.fsm = .dP → 6 ≤ s.pos ∧ s.pos < s.len + 2) ∧
  (s.fsm = .dY → 7 ≤ s.pos ∧ s.pos ≤ s.len) ∧
  (s.fsm = .dX → 9 ≤ s.pos ∧ s.pos ≤ s.len + 2) ∧
  (s.fsm = .dNf → 11 ≤ s.pos ∧ s.pos ≤ s.len + 4) ∧
  (s.fsm = .dCi → 12 ≤ s.pos ∧ s.pos ≤ s.len) ∧
  (s.fsm = .dHv → 13 ≤ s.pos ∧ s.pos ≤ s.len) ∧
  (s.fsm = .dTq → 14 ≤ s.pos ∧ s.pos ≤ s.len) ∧
  (s.fsm = .done → s.pos = s.len + slack s.cfg) ∧
  (s.fsm = .error → s.pos ≤ s.len + 4)

/-- `ERR` is set exactly in ERROR; an INVALID_SOI run has read nothing and emitted nothing, a READ_OOR run stands at the byte
that is not there (R200, R201, R205). -/
abbrev State.ErrOk (s : State) : Prop :=
  (s.err = .none ↔ s.fsm ≠ .error) ∧
  (s.err = .invalidSoi → s.pos = 0 ∧ s.out = []) ∧
  (s.err = .readOor → s.len ≤ s.pos)

/-- In the component loop `K` is below `NF` (R149). -/
abbrev State.LoopOk (s : State) : Prop :=
  s.fsm ∈ [Fsm.dCi, .dHv, .dTq] → s.k.toNat < s.nf.toNat

/-- `UNIMPL` is never chosen; inside a decode, once the marker is read, the label is LOSSY or LOSSLESS; before the first
marker read of a run there is none (R26, R141). -/
abbrev State.KindOk (s : State) : Prop :=
  s.kind ≠ .unimpl ∧
  (s.fsm ∈ [Fsm.idle, .soi] → s.kind = .none) ∧
  (s.fsm ∈ [Fsm.dLf, .dP, .dY, .dX, .dNf, .dCi, .dHv, .dTq] → s.kind = .lossy ∨ s.kind = .lossless)

/-- The log holds only records the block can emit, and none before scanning begins (R80, R180). -/
abbrev State.OutOk (s : State) : Prop :=
  (s.fsm ∈ [Fsm.idle, .soi] → s.out = []) ∧ ∀ r ∈ s.out, Record.wf r = true

/-- The invariant of the machine: legal parameters, a length the register holds, a buffer in canonical form, and the five
parts above. It holds at reset and every step keeps it. -/
abbrev State.Inv (s : State) : Prop :=
  s.cfg.Ok ∧ s.len < 2 ^ s.cfg.lenW ∧ Mem.wf s.buf = true ∧ s.PosOk ∧ s.ErrOk ∧ s.LoopOk ∧ s.KindOk ∧ s.OutOk

/-- The registers of R20, by name. -/
inductive Reg where
  | state
  | pos
  | l
  | lf
  | p
  | y
  | x
  | nf
  | k
  | ci
  | hi
  | vi
  | tq
  | kind
  | err
  | out
deriving DecidableEq, Repr

/-- Register `r` holds the same in `s` and `t`. -/
def Reg.Same (r : Reg) (s t : State) : Prop :=
  match r with
  | .state => t.fsm = s.fsm
  | .pos => t.pos = s.pos
  | .l => t.len = s.len
  | .lf => t.lf = s.lf
  | .p => t.p = s.p
  | .y => t.y = s.y
  | .x => t.x = s.x
  | .nf => t.nf = s.nf
  | .k => t.k = s.k
  | .ci => t.ci = s.ci
  | .hi => t.hi = s.hi
  | .vi => t.vi = s.vi
  | .tq => t.tq = s.tq
  | .kind => t.kind = s.kind
  | .err => t.err = s.err
  | .out => t.out = s.out

/-- Every register outside `written` holds the same in `s` and `t`, every byte of the buffer reads the same, and the
parameters and the coming pin samples are the same. -/
def Frame (written : List Reg) (s t : State) : Prop :=
  (∀ r : Reg, r ∉ written → r.Same s t) ∧ (∀ a : Nat, Mem.read t.buf a = Mem.read s.buf a) ∧ t.cfg = s.cfg ∧
    t.pins = s.pins

/-- The cursor operations, which no step runs on its own (R9). -/
def cursorOperation : Instr → Bool
  | .peek1 _ => true
  | .peek2 _ => true
  | .read1 => true
  | .read2 => true
  | .advance => true
  | .hasNext => true
  | .hasLookahead => true
  | _ => false

/-- The registers an operation may write, its fault entry included: the "writes" of its rule (R100-R104, R121-R126,
R141-R149, R180, R181, R205). -/
def writtenBy : Instr → List Reg
  | .filler _ => [.pos]
  | .fillerFfff => [.pos]
  | .sof0 => [.state]
  | .sof3 => [.state]
  | .otherMarker _ => [.pos]
  | .start _ => [.state, .pos, .l, .kind, .err, .out]
  | .soi => [.pos, .state, .err]
  | .scan => [.pos, .state]
  | .dMark => [.pos, .kind, .out, .state]
  | .dLf => [.pos, .lf, .out, .state]
  | .dP => [.pos, .p, .out, .state, .err]
  | .dY => [.pos, .y, .out, .state]
  | .dX => [.pos, .x, .out, .state]
  | .dNf => [.pos, .nf, .k, .out, .state, .err]
  | .dCi => [.pos, .ci, .out, .state, .err]
  | .dHv => [.pos, .hi, .vi, .out, .state, .err]
  | .dTq => [.pos, .tq, .k, .out, .state, .err]
  | .peek1 _ => [.state, .err]
  | .peek2 _ => []
  | .read1 => [.pos, .state, .err]
  | .read2 => [.pos]
  | .advance => [.pos]
  | .hasNext => []
  | .hasLookahead => []

/-- `v` is what a 2-byte read at `a` gives: the two bytes big-endian when `a + 2 < L`, else 0 (R52, R101). -/
def State.HalfAt (s : State) (a : Nat) (v : Half) : Prop :=
  (a + 2 < s.len → v.toNat = (Mem.read s.buf a).toNat * 256 + (Mem.read s.buf (a + 1)).toNat) ∧
    (s.len ≤ a + 2 → v.toNat = 0)

/-- The loop guard of R105, spelled out. -/
def State.GuardHolds (s : State) : Prop :=
  (s.cfg.hasNextBound = .le ∧ s.pos ≤ s.len) ∨ (s.cfg.hasNextBound = .lt ∧ s.pos < s.len)

/-- The scanner sees the marker word FF `b` at `POS`: both bytes are there and one more follows (R101, R124). -/
def State.SeesMarker (s : State) (b : Byte) : Prop :=
  s.pos + 2 < s.len ∧ Mem.read s.buf s.pos = 0xFF#8 ∧ Mem.read s.buf (s.pos + 1) = b

/-- An outcome with its next state changed by `f`. -/
def mapNext (f : State → State) : Host.Outcome State Fault Refusal → Host.Outcome State Fault Refusal
  | .next t => .next (f t)
  | .fault r => .fault r
  | .refused r => .refused r

/-- The two states have the same parameters, control registers, buffer and pins: everything a rule may read (R24-R28). -/
def SameControl (s t : State) : Prop :=
  t.cfg = s.cfg ∧ t.fsm = s.fsm ∧ t.pos = s.pos ∧ t.len = s.len ∧ t.nf = s.nf ∧ t.k = s.k ∧ t.buf = s.buf ∧
    t.pins = s.pins

/-- A host that has done the duties of R232 for a file: the file in the buffer, its length on `buf_len`, one start pulse. -/
def State.bootFile (s : State) (file : List Byte) : State :=
  { s.loadFile file with
    pins := [{ rst := false, start := true, bufLen := file.length, memAck := true, recReady := true }] }

/-- The records of a component given by its fields (R80, R83). -/
def Component.records (j : Nat) (q : Component) : List Record :=
  [.field .ci (BitVec.ofNat 8 j) 8#8 (q.c.setWidth 16), .field .hi (BitVec.ofNat 8 j) 4#8 (q.h.setWidth 16),
   .field .vi (BitVec.ofNat 8 j) 4#8 (q.v.setWidth 16), .field .tqi (BitVec.ofNat 8 j) 8#8 (q.t.setWidth 16)]

/-- The records of a list of components, the first with index `j`. -/
def componentListRecords : Nat → List Component → List Record
  | _, [] => []
  | j, q :: qs => q.records j ++ componentListRecords (j + 1) qs

end Sys2Proof.Machine
end

