-- ==== Sys2Proof/Certificates/Slice0/Obligations.lean ====
section
/-! DEFINITION. The statements for the provers. Each docstring names the rule of the spec it comes from. -/

open Sys2Proof Sys2Proof.Machine

/-! ## Encodings -/

/-- R71, R21: codes written out from the spec's encodings. -/
def Obligations.SpecCodesDecode : Prop :=
  decode (.markerWord 0x0000#16) = .ok (.filler 0x0000#16) ∧
  decode (.markerWord 0xFF01#16) = .ok (.filler 0xFF01#16) ∧
  decode (.markerWord 0xFF02#16) = .ok (.otherMarker 0xFF02#16) ∧
  decode (.markerWord 0xFFC0#16) = .ok .sof0 ∧
  decode (.markerWord 0xFFC3#16) = .ok .sof3 ∧
  decode (.markerWord 0xFFFF#16) = .ok .fillerFfff ∧
  decode (.fsmState 1#4) = .ok .soi ∧
  decode (.fsmState 11#4) = .ok .dTq ∧
  decode (.fsmState 0#4) = .error .idleState ∧
  decode (.fsmState 14#4) = .error .reservedState

/-- R71, R21, R180: the code of a well-formed operation decodes to it, every operand included. -/
def Obligations.EncodedOperationDecodesBack : Prop :=
  ∀ (c : Config) (i : Instr) (e : OpCode), i.wellFormed c = true → encode i = some e → decode e = .ok i

/-- R70, R21: a code that selects an operation is the code of that operation, and the operation is well formed (a
start command as far as its length fits the port). -/
def Obligations.DecodedOperationEncodesBack : Prop :=
  ∀ (e : OpCode) (i : Instr), decode e = .ok i →
    encode i = some e ∧
      ∀ c : Config, (∀ n : Nat, i = .start n → n < 2 ^ c.lenW) → i.wellFormed c = true

/-- R71: the ranges of the five classes. -/
def Obligations.MarkerWordsSelectByRange : Prop :=
  ∀ w : Half,
    (decodeMarker w = .filler w ↔ w.toNat ≤ 0xFF01) ∧
    (decodeMarker w = .fillerFfff ↔ w.toNat = 0xFFFF) ∧
    (decodeMarker w = .sof0 ↔ w.toNat = 0xFFC0) ∧
    (decodeMarker w = .sof3 ↔ w.toNat = 0xFFC3) ∧
    (decodeMarker w = .otherMarker w ↔
      0xFF02 ≤ w.toNat ∧ w.toNat ≤ 0xFFFE ∧ w.toNat ≠ 0xFFC0 ∧ w.toNat ≠ 0xFFC3)

/-- R72: the mask rows select what the ranges select; the rows of all classes are pairwise disjoint; FILLER is "high
byte not 0xFF, or 0xFF00, or 0xFF01". -/
def Obligations.MaskRowsMatchTheClasses : Prop :=
  (∀ (w : Half) (q : MarkerClass), classify w = q ↔ ∃ row : Half × Half, row ∈ maskRows q ∧ w &&& row.2 = row.1) ∧
  (∀ (w : Half) (q q' : MarkerClass) (row row' : Half × Half), row ∈ maskRows q → row' ∈ maskRows q' →
    w &&& row.2 = row.1 → w &&& row'.2 = row'.1 → q = q' ∧ row = row') ∧
  (∀ w : Half, classify w = .filler ↔ w.toNat / 256 ≠ 0xFF ∨ w.toNat = 0xFF00 ∨ w.toNat = 0xFF01)

/-- R81: the 48 bits of a record, with the numbers R26 gives the labels and R80 the field ids and declared widths. -/
def Obligations.RecordWordLayout : Prop :=
  (∀ (mk : Half) (kd : Kind),
    let w := (Record.frameBegin mk kd).toBits
    w.extractLsb' 44 4 = 0#4 ∧ w.extractLsb' 42 2 = 0#2 ∧ w.extractLsb' 40 2 = kd.code ∧
      w.extractLsb' 16 24 = 0#24 ∧ w.extractLsb' 0 16 = mk) ∧
  (∀ (f : FieldName) (j wd : Byte) (v : Half),
    let w := (Record.field f j wd v).toBits
    w.extractLsb' 44 4 = 1#4 ∧ w.extractLsb' 40 4 = f.id ∧ w.extractLsb' 32 8 = j ∧ w.extractLsb' 24 8 = wd ∧
      w.extractLsb' 16 8 = 0#8 ∧ w.extractLsb' 0 16 = v) ∧
  (∀ f : FieldName, f.id.toNat ≤ 8 ∧ (f.width.toNat = 16 ∨ f.width.toNat = 8 ∨ f.width.toNat = 4)) ∧
  (Kind.none.code.toNat = 0 ∧ Kind.lossy.code.toNat = 1 ∧ Kind.lossless.code.toNat = 2 ∧ Kind.unimpl.code.toNat = 3) ∧
  (FieldName.lf.id.toNat = 0 ∧ FieldName.p.id.toNat = 1 ∧ FieldName.y.id.toNat = 2 ∧ FieldName.x.id.toNat = 3 ∧
    FieldName.nf.id.toNat = 4 ∧ FieldName.ci.id.toNat = 5 ∧ FieldName.hi.id.toNat = 6 ∧ FieldName.vi.id.toNat = 7 ∧
    FieldName.tqi.id.toNat = 8) ∧
  (FieldName.lf.width.toNat = 16 ∧ FieldName.p.width.toNat = 8 ∧ FieldName.y.width.toNat = 16 ∧
    FieldName.x.width.toNat = 16 ∧ FieldName.nf.width.toNat = 8 ∧ FieldName.ci.width.toNat = 8 ∧
    FieldName.hi.width.toNat = 4 ∧ FieldName.vi.width.toNat = 4 ∧ FieldName.tqi.width.toNat = 8)

/-- R81: a record is read back from its 48 bits. That records are abstract, and that bits whose tag is 2 or more, or
whose tag is 1 and whose field id is 9 or more, read as no record, is the model's choice (log entry 14), after
93_implementation_defined.md entry 13. -/
def Obligations.RecordWordsReadBack : Prop :=
  (∀ r : Record, Record.ofBits r.toBits = some r) ∧
  (∀ w : BitVec 48, 2 ≤ (w.extractLsb' 44 4).toNat → Record.ofBits w = none) ∧
  (∀ w : BitVec 48, (w.extractLsb' 44 4).toNat = 1 → 9 ≤ (w.extractLsb' 40 4).toNat → Record.ofBits w = none)

/-- R31, with the numbers R21, R26 and R27 give the codes: the status outputs are functions of the state. `POS` shows
whole on its port as far as it fits `POS_W` bits (log entry 2). -/
def Obligations.StatusOutputsShowTheState : Prop :=
  ∀ s : State,
    (s.busy = true ↔ s.fsm ≠ .idle ∧ s.fsm ≠ .done ∧ s.fsm ≠ .error) ∧
    (s.doneOut = true ↔ s.fsm = .done) ∧ (s.errorOut = true ↔ s.fsm = .error) ∧
    (Fsm.ofCode s.stateOut = some s.fsm ∧ Kind.ofCode s.kindOut = s.kind) ∧
    ((s.stateOut.toNat = 0 ↔ s.fsm = .idle) ∧ (s.stateOut.toNat = 1 ↔ s.fsm = .soi) ∧
      (s.stateOut.toNat = 2 ↔ s.fsm = .scan) ∧ (s.stateOut.toNat = 3 ↔ s.fsm = .dMark) ∧
      (s.stateOut.toNat = 4 ↔ s.fsm = .dLf) ∧ (s.stateOut.toNat = 5 ↔ s.fsm = .dP) ∧
      (s.stateOut.toNat = 6 ↔ s.fsm = .dY) ∧ (s.stateOut.toNat = 7 ↔ s.fsm = .dX) ∧
      (s.stateOut.toNat = 8 ↔ s.fsm = .dNf) ∧ (s.stateOut.toNat = 9 ↔ s.fsm = .dCi) ∧
      (s.stateOut.toNat = 10 ↔ s.fsm = .dHv) ∧ (s.stateOut.toNat = 11 ↔ s.fsm = .dTq) ∧
      (s.stateOut.toNat = 12 ↔ s.fsm = .done) ∧ (s.stateOut.toNat = 13 ↔ s.fsm = .error)) ∧
    ((s.kindOut.toNat = 0 ↔ s.kind = .none) ∧ (s.kindOut.toNat = 1 ↔ s.kind = .lossy) ∧
      (s.kindOut.toNat = 2 ↔ s.kind = .lossless) ∧ (s.kindOut.toNat = 3 ↔ s.kind = .unimpl)) ∧
    (s.errCodeOut.toNat = 0 ↔ s.err = .none) ∧ (s.errCodeOut.toNat = 1 ↔ s.err = .invalidSoi) ∧
    (s.errCodeOut.toNat = 2 ↔ s.err = .readOor) ∧
    (s.pos < 2 ^ s.cfg.posW → s.posOut.toNat = s.pos)

/-! ## The buffer -/

/-- R232, R50: a loaded file reads back at its offsets. -/
def Obligations.LoadedFileReadsBack : Prop :=
  ∀ (s : State) (file : List Byte) (a : Nat) (h : a < file.length), Mem.read (s.loadFile file).buf a = file[a]

/-- R8, R50: no operation and no step, reset included, changes a byte of the buffer. -/
def Obligations.BufferIsNeverWritten : Prop :=
  (∀ (i : Instr) (s t : State) (a : Nat), exec i s = .next t → Mem.read t.buf a = Mem.read s.buf a) ∧
  (∀ (s t : State) (a : Nat), step s = .next t → Mem.read t.buf a = Mem.read s.buf a)

/-- R30, R51: `mem_addr` is always below `L`. -/
def Obligations.MemoryRequestsStayInside : Prop :=
  ∀ (s : State) (i : Instr) (a : Nat), a ∈ s.memReads i → a < s.len

/-- R51, R56: an operation depends on no byte of the buffer but those it asks for. -/
def Obligations.OnlyRequestedBytesMatter : Prop :=
  ∀ (i : Instr) (s : State) (m : List Host.Cell), (∀ a : Nat, a ∈ s.memReads i → Mem.read m a = Mem.read s.buf a) →
    exec i { s with buf := m } = mapNext (fun t => { t with buf := m }) (exec i s)

/-! ## The cursor -/

/-- R100 (the value is handed back in `ret`, the model's own field, log entry 6): PEEK1 in range returns the byte and
changes nothing; out of range it faults. -/
def Obligations.Peek1ReturnsTheByteOrFaults : Prop :=
  ∀ (s : State) (p : Nat),
    (p < s.len → exec (.peek1 p) s = .next { s with ret := .byte (Mem.read s.buf p) }) ∧
    (s.len ≤ p → exec (.peek1 p) s = .next { s with fsm := .error, err := .readOor })

/-- R101 (handed back in `ret`, log entry 6): PEEK2 returns the big-endian value when `p + 2 < L`, else 0; it never
faults and changes nothing. -/
def Obligations.Peek2ReturnsTheHalf : Prop :=
  ∀ (s : State) (p : Nat), ∃ v : Half, exec (.peek2 p) s = .next { s with ret := .half v } ∧
    (p + 2 < s.len → v.toNat = (Mem.read s.buf p).toNat * 256 + (Mem.read s.buf (p + 1)).toNat) ∧
    (s.len ≤ p + 2 → v.toNat = 0)

/-- R102 (handed back in `ret`, log entry 6): READ1 returns the byte at `POS` and advances 1; out of range it faults
and advances nothing. -/
def Obligations.Read1AdvancesByOne : Prop :=
  ∀ s : State,
    (s.pos < s.len → exec .read1 s = .next { s with pos := s.pos + 1, ret := .byte (Mem.read s.buf s.pos) }) ∧
    (s.len ≤ s.pos → exec .read1 s = .next { s with fsm := .error, err := .readOor })

/-- R103 (handed back in `ret`, log entry 6): READ2 returns the value at `POS`, 0 when `POS + 2 >= L`, and advances 2
whether or not the bytes were in range. -/
def Obligations.Read2AdvancesByTwo : Prop :=
  ∀ s : State, ∃ v : Half, exec .read2 s = .next { s with pos := s.pos + 2, ret := .half v } ∧
    (s.pos + 2 < s.len → v.toNat = (Mem.read s.buf s.pos).toNat * 256 + (Mem.read s.buf (s.pos + 1)).toNat) ∧
    (s.len ≤ s.pos + 2 → v.toNat = 0)

/-- R104: ADVANCE adds 1 to `POS`, with no bound check. -/
def Obligations.AdvanceAddsOne : Prop :=
  ∀ s : State, exec .advance s = .next { s with pos := s.pos + 1 }

/-- R105, for `POS >= 1` (handed back in `ret`, log entry 6): HASNEXT returns the comparison `HASNEXT_BOUND` names,
and changes nothing. -/
def Obligations.HasNextComparesPosition : Prop :=
  ∀ s : State, s.pos ≠ 0 → ∃ b : Bool, exec .hasNext s = .next { s with ret := .truth b } ∧
    (b = true ↔ s.GuardHolds)

/-- 93_implementation_defined.md entry 2: at `POS` = 0 the loop guard is refused, alone and in a SCAN step. The
refusal is the model's reading of that entry (log entry 7). -/
def Obligations.HasNextAtZeroIsRefused : Prop :=
  ∀ s : State, s.pos = 0 →
    exec .hasNext s = .refused .hasNextAtPositionZero ∧ exec .scan s = .refused .hasNextAtPositionZero

/-- R106 (handed back in `ret`, log entry 6): HASLOOKAHEAD is true for every `POS <= 10`, and above it when `POS < L +
10`. -/
def Obligations.HasLookaheadComparesPosition : Prop :=
  ∀ s : State, ∃ b : Bool, exec .hasLookahead s = .next { s with ret := .truth b } ∧
    (b = true ↔ s.pos ≤ 10 ∨ s.pos < s.len + 10)

/-! ## The scanner -/

/-- R122, R123, R126: the three skipping classes advance one byte and change nothing else. -/
def Obligations.SkippedClassesAdvanceOneByte : Prop :=
  ∀ (s : State) (w : Half),
    exec (.filler w) s = .next { s with pos := s.pos + 1 } ∧
    exec .fillerFfff s = .next { s with pos := s.pos + 1 } ∧
    exec (.otherMarker w) s = .next { s with pos := s.pos + 1 }

/-- R124, R125: SOF0 and SOF3 enter the decoder with `POS` at the marker. -/
def Obligations.FrameMarkersEnterTheDecoder : Prop :=
  ∀ s : State, exec .sof0 s = .next { s with fsm := .dMark } ∧ exec .sof3 s = .next { s with fsm := .dMark }

/-- R121, R127, R128 in the bytes of the buffer, for `POS >= 1` (at 0 the guard is refused, log entry 7): the step
ends the run when the guard is false; it enters the decoder at the bytes FF C0 or FF C3 with one more byte after them;
anywhere else it advances one byte. -/
def Obligations.ScanStepFollowsTheBytes : Prop :=
  ∀ s : State, s.pos ≠ 0 →
    (¬ s.GuardHolds → exec .scan s = .next { s with fsm := .done }) ∧
    (s.GuardHolds → (s.SeesMarker 0xC0#8 ∨ s.SeesMarker 0xC3#8) → exec .scan s = .next { s with fsm := .dMark }) ∧
    (s.GuardHolds → ¬ (s.SeesMarker 0xC0#8 ∨ s.SeesMarker 0xC3#8) →
      exec .scan s = .next { s with pos := s.pos + 1 })

/-- R129: the scan step never faults and never emits, and at every `POS >= L - 2` it classifies the word 0 as FILLER.
-/
def Obligations.ScanStepNeitherFaultsNorEmits : Prop :=
  (∀ s t : State, exec .scan s = .next t → t.out = s.out ∧ t.err = s.err ∧ (t.fsm = .error → s.fsm = .error)) ∧
  (∀ s : State, s.len ≤ s.pos + 2 → (s.peek2 s.pos).toNat = 0 ∧ decodeMarker (s.peek2 s.pos) = .filler 0x0000#16)

/-! ## The frame header decoder -/

/-- R141: the marker is read, the label chosen and the frame record emitted. -/
def Obligations.MarkStepEmitsTheFrameRecord : Prop :=
  ∀ s : State, ∃ (mk : Half) (kd : Kind), s.HalfAt s.pos mk ∧
    (mk.toNat = 0xFFC0 → kd = .lossy) ∧ (mk.toNat = 0xFFC3 → kd = .lossless) ∧
    (mk.toNat ≠ 0xFFC0 → mk.toNat ≠ 0xFFC3 → kd = .unimpl) ∧
    exec .dMark s =
      .next { s with pos := s.pos + 2, kind := kd, out := s.out ++ [.frameBegin mk kd], fsm := .dLf }

/-- R142: `Lf`. -/
def Obligations.LfStepRecordsTheLength : Prop :=
  ∀ s : State, ∃ v : Half, s.HalfAt s.pos v ∧
    exec .dLf s = .next { s with pos := s.pos + 2, lf := v, out := s.out ++ [.field .lf 0#8 16#8 v], fsm := .dP }

/-- R143: `P`, or the fault. -/
def Obligations.PStepRecordsThePrecision : Prop :=
  ∀ s : State,
    (s.pos < s.len → exec .dP s = .next { s with
      pos := s.pos + 1
      p := Mem.read s.buf s.pos
      out := s.out ++ [.field .p 0#8 8#8 ((Mem.read s.buf s.pos).setWidth 16)]
      fsm := .dY }) ∧
    (s.len ≤ s.pos → exec .dP s = .next { s with fsm := .error, err := .readOor })

/-- R144: `Y`. -/
def Obligations.YStepRecordsTheLines : Prop :=
  ∀ s : State, ∃ v : Half, s.HalfAt s.pos v ∧
    exec .dY s = .next { s with pos := s.pos + 2, y := v, out := s.out ++ [.field .y 0#8 16#8 v], fsm := .dX }

/-- R145: `X`. -/
def Obligations.XStepRecordsTheSamples : Prop :=
  ∀ s : State, ∃ v : Half, s.HalfAt s.pos v ∧
    exec .dX s = .next { s with pos := s.pos + 2, x := v, out := s.out ++ [.field .x 0#8 16#8 v], fsm := .dNf }

/-- R146: `Nf`; 0 ends the segment, anything else starts the component loop at index 0; or the fault. -/
def Obligations.NfStepStartsTheLoop : Prop :=
  ∀ s : State,
    (s.pos < s.len → (Mem.read s.buf s.pos).toNat = 0 → exec .dNf s = .next { s with
      pos := s.pos + 1
      nf := 0#8
      k := 0#8
      out := s.out ++ [.field .nf 0#8 8#8 0#16]
      fsm := .scan }) ∧
    (s.pos < s.len → (Mem.read s.buf s.pos).toNat ≠ 0 → exec .dNf s = .next { s with
      pos := s.pos + 1
      nf := Mem.read s.buf s.pos
      k := 0#8
      out := s.out ++ [.field .nf 0#8 8#8 ((Mem.read s.buf s.pos).setWidth 16)]
      fsm := .dCi }) ∧
    (s.len ≤ s.pos → exec .dNf s = .next { s with fsm := .error, err := .readOor })

/-- R147: `Ci` of component `K`, or the fault. -/
def Obligations.CiStepRecordsTheIdentifier : Prop :=
  ∀ s : State,
    (s.pos < s.len → exec .dCi s = .next { s with
      pos := s.pos + 1
      ci := Mem.read s.buf s.pos
      out := s.out ++ [.field .ci s.k 8#8 ((Mem.read s.buf s.pos).setWidth 16)]
      fsm := .dHv }) ∧
    (s.len ≤ s.pos → exec .dCi s = .next { s with fsm := .error, err := .readOor })

/-- R148, R76: `Hi` is the top nibble, `Vi` the bottom one, emitted in that order; or the fault, with neither emitted.
-/
def Obligations.HvStepSplitsTheByte : Prop :=
  ∀ s : State,
    (s.pos < s.len → ∃ h v : Nibble,
      h.toNat = (Mem.read s.buf s.pos).toNat / 16 ∧ v.toNat = (Mem.read s.buf s.pos).toNat % 16 ∧
      exec .dHv s = .next { s with
        pos := s.pos + 1
        hi := h
        vi := v
        out := s.out ++ [.field .hi s.k 4#8 (h.setWidth 16), .field .vi s.k 4#8 (v.setWidth 16)]
        fsm := .dTq }) ∧
    (s.len ≤ s.pos → exec .dHv s = .next { s with fsm := .error, err := .readOor })

/-- R149: `Tqi` of component `K`, unmasked; the last component ends the segment and keeps `K`, another goes on with `K
+ 1`; or the fault. -/
def Obligations.TqStepLoopsOrReturns : Prop :=
  ∀ s : State,
    (s.pos < s.len → s.k.toNat + 1 = s.nf.toNat → exec .dTq s = .next { s with
      pos := s.pos + 1
      tq := Mem.read s.buf s.pos
      out := s.out ++ [.field .tqi s.k 8#8 ((Mem.read s.buf s.pos).setWidth 16)]
      fsm := .scan }) ∧
    (s.pos < s.len → s.k.toNat + 1 ≠ s.nf.toNat → exec .dTq s = .next { s with
      pos := s.pos + 1
      tq := Mem.read s.buf s.pos
      k := s.k + 1#8
      out := s.out ++ [.field .tqi s.k 8#8 ((Mem.read s.buf s.pos).setWidth 16)]
      fsm := .dCi }) ∧
    (s.len ≤ s.pos → exec .dTq s = .next { s with fsm := .error, err := .readOor })

/-- R150, and R151 for a decode that returns to SCAN: a decode whose segment lies whole in the buffer, with a host
that meets its duties, takes `6 + 3 * Nf` steps, returns to SCAN at the byte after the segment, and appends exactly
its `6 + 4 * Nf` records in order. That no sample left means a host that meets its duties and gives no command is the
model's choice (log entry 3). -/
def Obligations.CompleteHeaderDecodes : Prop :=
  ∀ s : State, s.fsm = .dMark → s.pins = [] → s.pos + segLength s.buf s.pos ≤ s.len →
    ∃ t : State, Sys2Proof.core.run (6 + 3 * (segNf s.buf s.pos).toNat) s = .next t ∧
      t.fsm = .scan ∧ t.pos = s.pos + 10 + 3 * (segNf s.buf s.pos).toNat ∧ t.pos ≤ t.len ∧ t.err = s.err ∧
      t.out = s.out ++ headerRecords s.buf s.pos ∧
      (headerRecords s.buf s.pos).length = 6 + 4 * (segNf s.buf s.pos).toNat

/-- R153: a decode whose segment is cut off, `r` bytes after its marker begins, with a host that meets its duties,
ends in ERROR with READ_OOR at the first 1-byte field that is not there, with the records of the table of R153. That
no sample left means a host that meets its duties and gives no command is the model's choice (log entry 3). -/
def Obligations.TruncatedHeaderFaults : Prop :=
  ∀ (s : State) (r : Nat), s.fsm = .dMark → s.pins = [] → s.len = s.pos + r → 3 ≤ r →
    (r < 10 ∨ r < segLength s.buf s.pos) →
    ∃ t : State, Sys2Proof.core.run (6 + 3 * (segNf s.buf s.pos).toNat) s = .next t ∧
      t.fsm = .error ∧ t.err = .readOor ∧ t.pos = s.pos + faultOffset r ∧
      t.out = s.out ++ truncatedRecords s.buf s.pos r

/-- R152: with the second marker byte C3 in place of C0, and a host that meets its duties, the same number of steps
gives the same state but for the label, in `KIND` and in the frame record. That no sample left means a host that meets
its duties and gives no command is the model's choice (log entry 3). -/
def Obligations.LossyAndLosslessDecodeAlike : Prop :=
  ∀ s : State, s.fsm = .dMark → s.pins = [] → Mem.wf s.buf = true → s.SeesMarker 0xC0#8 →
    ∃ (t : State) (rest : List Record),
      Sys2Proof.core.run (6 + 3 * (segNf s.buf s.pos).toNat) s = .next t ∧ t.kind = .lossy ∧
      t.out = s.out ++ .frameBegin 0xFFC0#16 .lossy :: rest ∧
      Sys2Proof.core.run (6 + 3 * (segNf s.buf s.pos).toNat)
          { s with buf := Mem.write s.buf (s.pos + 1) 0xC3#8 } =
        .next { t with
          buf := Mem.write s.buf (s.pos + 1) 0xC3#8
          kind := .lossless
          out := s.out ++ .frameBegin 0xFFC3#16 .lossless :: rest }

/-- R24, R25, R26, R28, R151: no rule reads `LF`, `P`, `Y`, `X`, `CI`, `HI`, `VI`, `TQ`, `KIND`, `ERR` or `OUT`. Two
states with the same control registers, buffer and pins stop alike or go on to two such states. Every other register
then agrees in the two, or the operation changed it in neither; so does `ret`, the model's own field (log entry 6).
Both logs have the same records appended, or START has emptied both. -/
def Obligations.LatchesAreNeverRead : Prop :=
  ∀ (i : Instr) (s s' t : State), SameControl s s' → exec i s = .next t →
    ∃ t' : State, exec i s' = .next t' ∧ SameControl t t' ∧
      (∀ r : Reg, r ≠ .out → r.Same t t' ∨ r.Same s t ∧ r.Same s' t') ∧
      (t'.ret = t.ret ∨ t.ret = s.ret ∧ t'.ret = s'.ret) ∧
      ((∃ rs : List Record, t.out = s.out ++ rs ∧ t'.out = s'.out ++ rs) ∨
        (∃ n : Nat, i = .start n) ∧ t.out = [] ∧ t'.out = [])

/-! ## Start of a run -/

/-- R180: the start command in an idle state and in a busy one. -/
def Obligations.StartBeginsARunWhenIdle : Prop :=
  (∀ (s : State) (n : Nat), (s.fsm = .idle ∨ s.fsm = .done ∨ s.fsm = .error) →
    exec (.start n) s =
      .next { s with len := n, pos := 0, kind := .none, err := .none, out := [], fsm := .soi }) ∧
  (∀ (s : State) (n : Nat), s.fsm ≠ .idle → s.fsm ≠ .done → s.fsm ≠ .error → exec (.start n) s = .next s)

/-- In an idle state a step runs START on the length of the pins if `start` is 1, and waits if it is 0. That the pins
are samples, one for each step, and that a length is cut to `LEN_W` bits is the model's choice (log entries 3 and 13).
-/
def Obligations.StartPulseRunsTheCommand : Prop :=
  ∀ s : State, (s.fsm = .idle ∨ s.fsm = .done ∨ s.fsm = .error) → s.pinsNow.rst = false →
    (s.pinsNow.start = true →
      step s = exec (.start (s.pinsNow.bufLen % 2 ^ s.cfg.lenW)) { s with pins := s.pins.tail }) ∧
    (s.pinsNow.start = false → step s = .next { s with pins := s.pins.tail })

/-- R181: the gate passes on `L >= 2` and the bytes FF D8, an exact bound; otherwise it faults; it reads nothing when
`L < 2`. -/
def Obligations.SoiGateChecksTwoBytes : Prop :=
  ∀ s : State,
    ((2 ≤ s.len ∧ Mem.read s.buf 0 = 0xFF#8 ∧ Mem.read s.buf 1 = 0xD8#8) →
      exec .soi s = .next { s with pos := 2, fsm := .scan }) ∧
    (¬ (2 ≤ s.len ∧ Mem.read s.buf 0 = 0xFF#8 ∧ Mem.read s.buf 1 = 0xD8#8) →
      exec .soi s = .next { s with fsm := .error, err := .invalidSoi }) ∧
    (s.len < 2 → s.memReads .soi = [])

/-! ## Faults -/

/-- R205, R200, R204: whenever an operation raises an error where there was none, the operation and its cause are
those of the table of R200, and `ERR` and `STATE` are all it writes. -/
def Obligations.FaultEntryIsPrecise : Prop :=
  ∀ (i : Instr) (s t : State), exec i s = .next t → s.err = .none → t.err ≠ .none →
    t = { s with fsm := .error, err := t.err } ∧
    ((t.err = .invalidSoi ∧ i = .soi ∧ ¬ (2 ≤ s.len ∧ Mem.read s.buf 0 = 0xFF#8 ∧ Mem.read s.buf 1 = 0xD8#8)) ∨
      (t.err = .readOor ∧ s.len ≤ s.pos ∧ i ∈ [Instr.dP, .dNf, .dCi, .dHv, .dTq, .read1]) ∨
      (t.err = .readOor ∧ ∃ p : Nat, i = .peek1 p ∧ s.len ≤ p))

/-- R206, R9: an idle state, ERROR among them, is left only by reset or a start command; nothing else changes it. The
pin samples, and reset before start, are the model's (log entries 3 and 9). -/
def Obligations.IdleStatesAreLeftOnlyByCommand : Prop :=
  ∀ s : State, (s.fsm = .idle ∨ s.fsm = .done ∨ s.fsm = .error) →
    (s.pinsNow.rst = false → s.pinsNow.start = false → step s = .next { s with pins := s.pins.tail }) ∧
    (s.pinsNow.rst = false → s.pinsNow.start = true → ∃ t : State, step s = .next t ∧
      t.fsm = .soi ∧ t.err = .none ∧ t.out = []) ∧
    (s.pinsNow.rst = true → ∃ t : State, step s = .next t ∧ t.fsm = .idle ∧ t.err = .none ∧ t.out = [])

/-! ## Reset and the whole machine -/

/-- R32: the value of every register after reset and at an accepted start command. -/
def Obligations.ResetAndStartValues : Prop :=
  (∀ c : Config, (State.resetOf c).fsm = .idle ∧ (State.resetOf c).pos = 0 ∧ (State.resetOf c).len = 0 ∧
    (State.resetOf c).lf = 0#16 ∧ (State.resetOf c).p = 0#8 ∧ (State.resetOf c).y = 0#16 ∧
    (State.resetOf c).x = 0#16 ∧ (State.resetOf c).nf = 0#8 ∧ (State.resetOf c).k = 0#8 ∧
    (State.resetOf c).ci = 0#8 ∧ (State.resetOf c).hi = 0#4 ∧ (State.resetOf c).vi = 0#4 ∧
    (State.resetOf c).tq = 0#8 ∧ (State.resetOf c).kind = .none ∧ (State.resetOf c).err = .none ∧
    (State.resetOf c).out = []) ∧
  (∀ (s t : State) (n : Nat), s.fsm.isIdle = true → exec (.start n) s = .next t →
    t.fsm = .soi ∧ t.pos = 0 ∧ t.len = n ∧ t.lf = s.lf ∧ t.p = s.p ∧ t.y = s.y ∧ t.x = s.x ∧ t.nf = s.nf ∧
      t.k = s.k ∧ t.ci = s.ci ∧ t.hi = s.hi ∧ t.vi = s.vi ∧ t.tq = s.tq ∧ t.kind = .none ∧ t.err = .none ∧
      t.out = [])

/-- R230, R231: a reset sample, in every state, sets every register to its reset value; the buffer and the coming
samples are the host's; the status outputs are low. That a reset keeps the parameters and the coming samples, clears
what a cursor operation handed back, and comes before a start command is the model's reading (log entries 3, 9 and
11). -/
def Obligations.ResetSampleResetsEveryRegister : Prop :=
  ∀ s : State, s.pinsNow.rst = true →
    step s = .next { State.resetOf s.cfg with buf := s.buf, pins := s.pins.tail } ∧
    (∀ t : State, step s = .next t → t.busy = false ∧ t.doneOut = false ∧ t.errorOut = false)

/-- The invariant holds at reset, with any legal parameters. -/
def Obligations.InvariantHoldsAtReset : Prop :=
  (∀ c : Config, c.Ok → (State.resetOf c).Inv) ∧ State.reset.Inv

/-- Every step keeps the invariant, whatever the pins show. -/
def Obligations.StepKeepsInvariant : Prop :=
  ∀ s t : State, s.Inv → step s = .next t → t.Inv

/-- R22: in a state that meets the invariant `POS` is at most `L + 4`, which fits `POS_W` bits. -/
def Obligations.PositionNeverWraps : Prop :=
  ∀ s : State, s.Inv → s.pos ≤ s.len + 4 ∧ s.len + 4 < 2 ^ s.cfg.posW

/-- R74, R203, R206: from a state that meets the invariant a step always answers a next state. -/
def Obligations.StepAlwaysGoesOn : Prop :=
  ∀ s : State, s.Inv → ∃ t : State, step s = .next t

/-- R28, where `rs` are the records the operation emits: no operation but START takes a record out of the log or
reorders it; START in an idle state empties it. -/
def Obligations.LogOnlyGrows : Prop :=
  (∀ (i : Instr) (s t : State), exec i s = .next t → (∀ n : Nat, i ≠ .start n) →
    ∃ rs : List Record, rs.length ≤ 2 ∧ t.out = s.out ++ rs) ∧
  (∀ (s t : State) (n : Nat), s.fsm.isIdle = true → exec (.start n) s = .next t → t.out = [])

/-- R23: only START writes `L`. That the parameters of R5 stand in the state, and that no operation and no step writes
them, is the model's choice (log entry 1). -/
def Obligations.LengthAndParametersStay : Prop :=
  (∀ (i : Instr) (s t : State), exec i s = .next t → (∀ n : Nat, i ≠ .start n) → t.len = s.len) ∧
  (∀ (i : Instr) (s t : State), exec i s = .next t → t.cfg = s.cfg) ∧
  (∀ s t : State, step s = .next t → t.cfg = s.cfg)

/-- The frame of every operation: outside the registers its rule or its fault entry names (`writtenBy`, the union of
the two; `Obligations.FaultEntryIsPrecise` says which of them a fault writes) nothing changes, and no byte of the
buffer changes. That a cursor operation hands a value back in `ret`, and that no other operation writes it, is the
model's choice (log entry 6). -/
def Obligations.OperationsWriteOnlyTheirRegisters : Prop :=
  ∀ (i : Instr) (s t : State), exec i s = .next t →
    Frame (writtenBy i) s t ∧ (cursorOperation i = false → t.ret = s.ret)

/-- R9: with no reset, a step whose code decodes runs that operation on the state with one pin sample used up, unless
the host holds it up; then it only uses up the sample. The samples and the hold are the model's (log entries 3 and 4),
as is the code a state and its pins show (log entry 8). -/
def Obligations.StepRunsTheDecodedOperation : Prop :=
  ∀ (s : State) (i : Instr), s.pinsNow.rst = false → decode s.selector = .ok i →
    (s.stalled i = false → step s = exec i { s with pins := s.pins.tail }) ∧
    (s.stalled i = true → step s = .next { s with pins := s.pins.tail })

/-- R9, R21: each busy state selects its step rule, whatever the pins show. -/
def Obligations.BusyStatesSelectTheirStep : Prop :=
  ∀ s : State,
    (s.fsm = .soi → s.select = some .soi) ∧ (s.fsm = .scan → s.select = some .scan) ∧
    (s.fsm = .dMark → s.select = some .dMark) ∧ (s.fsm = .dLf → s.select = some .dLf) ∧
    (s.fsm = .dP → s.select = some .dP) ∧ (s.fsm = .dY → s.select = some .dY) ∧
    (s.fsm = .dX → s.select = some .dX) ∧ (s.fsm = .dNf → s.select = some .dNf) ∧
    (s.fsm = .dCi → s.select = some .dCi) ∧ (s.fsm = .dHv → s.select = some .dHv) ∧
    (s.fsm = .dTq → s.select = some .dTq)

/-- R30, R233: a step that reads while the host does not answer, or that emits while the host does not take the
record, does not complete: the block holds its state. That one sample speaks for the whole step is the model's (log
entry 4). -/
def Obligations.UnansweredStepHolds : Prop :=
  ∀ (s t : State) (i : Instr), s.pinsNow.rst = false → s.select = some i → exec i s = .next t →
    (s.pinsNow.memAck = false → s.memReads i ≠ [] → step s = .next { s with pins := s.pins.tail }) ∧
    (s.pinsNow.recReady = false → s.out.length < t.out.length → step s = .next { s with pins := s.pins.tail })

/-- R234: while busy, `start` and `buf_len` have no effect. -/
def Obligations.StartAndLengthIgnoredWhileBusy : Prop :=
  ∀ (s : State) (q : PinSample) (rest : List PinSample) (st : Bool) (n : Nat), s.busy = true →
    step { s with pins := { q with start := st, bufLen := n } :: rest } = step { s with pins := q :: rest }

/-- R238: with a host that meets its duties every run ends, within `L + 1` steps of the start command when `L >= 2`
and after 1 step otherwise. That no sample left means a host that meets its duties and gives no command is the model's
choice (log entry 3). -/
def Obligations.EveryRunEnds : Prop :=
  ∀ s : State, s.fsm = .soi → s.pos = 0 → s.pins = [] →
    (2 ≤ s.len → ∃ t : State, Sys2Proof.core.run (s.len + 1) s = .next t ∧ t.RunOver) ∧
    (s.len < 2 → ∃ t : State, Sys2Proof.core.run 1 s = .next t ∧ t.RunOver)

/-- R105, 90_conflicts.md C1: with a host that meets its duties the setting of `HASNEXT_BOUND` shows in no record, no
error code and no end state; a run that ends normally ends at `L + 1` under `LE` and at `L` under `LT`, a run that
faults at the same place. That no sample left means a host that meets its duties and gives no command is the model's
choice (log entry 3). -/
def Obligations.LoopBoundDoesNotShowInTheRecords : Prop :=
  ∀ s : State, s.fsm = .soi → s.pos = 0 → s.err = .none → s.pins = [] →
    ∃ t t' : State,
      Sys2Proof.core.run (s.len + 2) { s with cfg := { s.cfg with hasNextBound := .le } } = .next t ∧
      Sys2Proof.core.run (s.len + 2) { s with cfg := { s.cfg with hasNextBound := .lt } } = .next t' ∧
      t.RunOver ∧ t'.fsm = t.fsm ∧ t'.err = t.err ∧ t'.out = t.out ∧
      (t.EndedNormally → t.pos = s.len + 1 ∧ t'.pos = s.len) ∧ (t.Faulted → t'.pos = t.pos)

/-- R83, R151, R232: from reset, a host that loads a file of SOI and one SOF0 or SOF3 segment built from given fields
and starts the run gets, after START, SOI, one dispatch, the decode and the end of the scan, exactly the records of
those fields, and a normal end. That the start pulse is one pin sample (`State.bootFile`), and that the pins rest
after it with the host's duties met, is the model's choice (log entry 3). -/
def Obligations.BuiltFileDecodesToItsFields : Prop :=
  ∀ (c : Config) (mk lf : Half) (kd : Kind) (p : Byte) (y x : Half) (cs : List Component),
    c.Ok → ((mk = 0xFFC0#16 ∧ kd = .lossy) ∨ (mk = 0xFFC3#16 ∧ kd = .lossless)) → cs.length ≤ 255 →
    12 + 3 * cs.length < 2 ^ c.lenW →
    ∃ t : State,
      Sys2Proof.core.run (11 + 3 * cs.length) ((State.resetOf c).bootFile (soiBytes ++ sofBytes mk lf p y x cs)) =
        .next t ∧
      t.EndedNormally ∧ t.err = .none ∧
      t.out =
        [.frameBegin mk kd, .field .lf 0#8 16#8 lf, .field .p 0#8 8#8 (p.setWidth 16), .field .y 0#8 16#8 y,
          .field .x 0#8 16#8 x, .field .nf 0#8 8#8 (BitVec.ofNat 16 cs.length)] ++ componentListRecords 0 cs
end

