-- ==== Sys2Proof/Laws/State.lean ====
section
/-! SUPPORT. What each state update does to each field, one lemma per field per update. -/

namespace Sys2Proof.Machine

/-! `setFsm` -/

@[simp] theorem State.setFsm_cfg (s : State) (f : Fsm) : (s.setFsm f).cfg = s.cfg := rfl
@[simp] theorem State.setFsm_fsm (s : State) (f : Fsm) : (s.setFsm f).fsm = f := rfl
@[simp] theorem State.setFsm_pos (s : State) (f : Fsm) : (s.setFsm f).pos = s.pos := rfl
@[simp] theorem State.setFsm_len (s : State) (f : Fsm) : (s.setFsm f).len = s.len := rfl
@[simp] theorem State.setFsm_lf (s : State) (f : Fsm) : (s.setFsm f).lf = s.lf := rfl
@[simp] theorem State.setFsm_p (s : State) (f : Fsm) : (s.setFsm f).p = s.p := rfl
@[simp] theorem State.setFsm_y (s : State) (f : Fsm) : (s.setFsm f).y = s.y := rfl
@[simp] theorem State.setFsm_x (s : State) (f : Fsm) : (s.setFsm f).x = s.x := rfl
@[simp] theorem State.setFsm_nf (s : State) (f : Fsm) : (s.setFsm f).nf = s.nf := rfl
@[simp] theorem State.setFsm_k (s : State) (f : Fsm) : (s.setFsm f).k = s.k := rfl
@[simp] theorem State.setFsm_ci (s : State) (f : Fsm) : (s.setFsm f).ci = s.ci := rfl
@[simp] theorem State.setFsm_hi (s : State) (f : Fsm) : (s.setFsm f).hi = s.hi := rfl
@[simp] theorem State.setFsm_vi (s : State) (f : Fsm) : (s.setFsm f).vi = s.vi := rfl
@[simp] theorem State.setFsm_tq (s : State) (f : Fsm) : (s.setFsm f).tq = s.tq := rfl
@[simp] theorem State.setFsm_kind (s : State) (f : Fsm) : (s.setFsm f).kind = s.kind := rfl
@[simp] theorem State.setFsm_err (s : State) (f : Fsm) : (s.setFsm f).err = s.err := rfl
@[simp] theorem State.setFsm_out (s : State) (f : Fsm) : (s.setFsm f).out = s.out := rfl
@[simp] theorem State.setFsm_buf (s : State) (f : Fsm) : (s.setFsm f).buf = s.buf := rfl
@[simp] theorem State.setFsm_pins (s : State) (f : Fsm) : (s.setFsm f).pins = s.pins := rfl
@[simp] theorem State.setFsm_ret (s : State) (f : Fsm) : (s.setFsm f).ret = s.ret := rfl

/-! `setPos` -/

@[simp] theorem State.setPos_cfg (s : State) (a : Nat) : (s.setPos a).cfg = s.cfg := rfl
@[simp] theorem State.setPos_fsm (s : State) (a : Nat) : (s.setPos a).fsm = s.fsm := rfl
@[simp] theorem State.setPos_pos (s : State) (a : Nat) : (s.setPos a).pos = a := rfl
@[simp] theorem State.setPos_len (s : State) (a : Nat) : (s.setPos a).len = s.len := rfl
@[simp] theorem State.setPos_lf (s : State) (a : Nat) : (s.setPos a).lf = s.lf := rfl
@[simp] theorem State.setPos_p (s : State) (a : Nat) : (s.setPos a).p = s.p := rfl
@[simp] theorem State.setPos_y (s : State) (a : Nat) : (s.setPos a).y = s.y := rfl
@[simp] theorem State.setPos_x (s : State) (a : Nat) : (s.setPos a).x = s.x := rfl
@[simp] theorem State.setPos_nf (s : State) (a : Nat) : (s.setPos a).nf = s.nf := rfl
@[simp] theorem State.setPos_k (s : State) (a : Nat) : (s.setPos a).k = s.k := rfl
@[simp] theorem State.setPos_ci (s : State) (a : Nat) : (s.setPos a).ci = s.ci := rfl
@[simp] theorem State.setPos_hi (s : State) (a : Nat) : (s.setPos a).hi = s.hi := rfl
@[simp] theorem State.setPos_vi (s : State) (a : Nat) : (s.setPos a).vi = s.vi := rfl
@[simp] theorem State.setPos_tq (s : State) (a : Nat) : (s.setPos a).tq = s.tq := rfl
@[simp] theorem State.setPos_kind (s : State) (a : Nat) : (s.setPos a).kind = s.kind := rfl
@[simp] theorem State.setPos_err (s : State) (a : Nat) : (s.setPos a).err = s.err := rfl
@[simp] theorem State.setPos_out (s : State) (a : Nat) : (s.setPos a).out = s.out := rfl
@[simp] theorem State.setPos_buf (s : State) (a : Nat) : (s.setPos a).buf = s.buf := rfl
@[simp] theorem State.setPos_pins (s : State) (a : Nat) : (s.setPos a).pins = s.pins := rfl
@[simp] theorem State.setPos_ret (s : State) (a : Nat) : (s.setPos a).ret = s.ret := rfl

/-! `setLf` -/

@[simp] theorem State.setLf_cfg (s : State) (v : Half) : (s.setLf v).cfg = s.cfg := rfl
@[simp] theorem State.setLf_fsm (s : State) (v : Half) : (s.setLf v).fsm = s.fsm := rfl
@[simp] theorem State.setLf_pos (s : State) (v : Half) : (s.setLf v).pos = s.pos := rfl
@[simp] theorem State.setLf_len (s : State) (v : Half) : (s.setLf v).len = s.len := rfl
@[simp] theorem State.setLf_lf (s : State) (v : Half) : (s.setLf v).lf = v := rfl
@[simp] theorem State.setLf_p (s : State) (v : Half) : (s.setLf v).p = s.p := rfl
@[simp] theorem State.setLf_y (s : State) (v : Half) : (s.setLf v).y = s.y := rfl
@[simp] theorem State.setLf_x (s : State) (v : Half) : (s.setLf v).x = s.x := rfl
@[simp] theorem State.setLf_nf (s : State) (v : Half) : (s.setLf v).nf = s.nf := rfl
@[simp] theorem State.setLf_k (s : State) (v : Half) : (s.setLf v).k = s.k := rfl
@[simp] theorem State.setLf_ci (s : State) (v : Half) : (s.setLf v).ci = s.ci := rfl
@[simp] theorem State.setLf_hi (s : State) (v : Half) : (s.setLf v).hi = s.hi := rfl
@[simp] theorem State.setLf_vi (s : State) (v : Half) : (s.setLf v).vi = s.vi := rfl
@[simp] theorem State.setLf_tq (s : State) (v : Half) : (s.setLf v).tq = s.tq := rfl
@[simp] theorem State.setLf_kind (s : State) (v : Half) : (s.setLf v).kind = s.kind := rfl
@[simp] theorem State.setLf_err (s : State) (v : Half) : (s.setLf v).err = s.err := rfl
@[simp] theorem State.setLf_out (s : State) (v : Half) : (s.setLf v).out = s.out := rfl
@[simp] theorem State.setLf_buf (s : State) (v : Half) : (s.setLf v).buf = s.buf := rfl
@[simp] theorem State.setLf_pins (s : State) (v : Half) : (s.setLf v).pins = s.pins := rfl
@[simp] theorem State.setLf_ret (s : State) (v : Half) : (s.setLf v).ret = s.ret := rfl

/-! `setP` -/

@[simp] theorem State.setP_cfg (s : State) (v : Byte) : (s.setP v).cfg = s.cfg := rfl
@[simp] theorem State.setP_fsm (s : State) (v : Byte) : (s.setP v).fsm = s.fsm := rfl
@[simp] theorem State.setP_pos (s : State) (v : Byte) : (s.setP v).pos = s.pos := rfl
@[simp] theorem State.setP_len (s : State) (v : Byte) : (s.setP v).len = s.len := rfl
@[simp] theorem State.setP_lf (s : State) (v : Byte) : (s.setP v).lf = s.lf := rfl
@[simp] theorem State.setP_p (s : State) (v : Byte) : (s.setP v).p = v := rfl
@[simp] theorem State.setP_y (s : State) (v : Byte) : (s.setP v).y = s.y := rfl
@[simp] theorem State.setP_x (s : State) (v : Byte) : (s.setP v).x = s.x := rfl
@[simp] theorem State.setP_nf (s : State) (v : Byte) : (s.setP v).nf = s.nf := rfl
@[simp] theorem State.setP_k (s : State) (v : Byte) : (s.setP v).k = s.k := rfl
@[simp] theorem State.setP_ci (s : State) (v : Byte) : (s.setP v).ci = s.ci := rfl
@[simp] theorem State.setP_hi (s : State) (v : Byte) : (s.setP v).hi = s.hi := rfl
@[simp] theorem State.setP_vi (s : State) (v : Byte) : (s.setP v).vi = s.vi := rfl
@[simp] theorem State.setP_tq (s : State) (v : Byte) : (s.setP v).tq = s.tq := rfl
@[simp] theorem State.setP_kind (s : State) (v : Byte) : (s.setP v).kind = s.kind := rfl
@[simp] theorem State.setP_err (s : State) (v : Byte) : (s.setP v).err = s.err := rfl
@[simp] theorem State.setP_out (s : State) (v : Byte) : (s.setP v).out = s.out := rfl
@[simp] theorem State.setP_buf (s : State) (v : Byte) : (s.setP v).buf = s.buf := rfl
@[simp] theorem State.setP_pins (s : State) (v : Byte) : (s.setP v).pins = s.pins := rfl
@[simp] theorem State.setP_ret (s : State) (v : Byte) : (s.setP v).ret = s.ret := rfl

/-! `setY` -/

@[simp] theorem State.setY_cfg (s : State) (v : Half) : (s.setY v).cfg = s.cfg := rfl
@[simp] theorem State.setY_fsm (s : State) (v : Half) : (s.setY v).fsm = s.fsm := rfl
@[simp] theorem State.setY_pos (s : State) (v : Half) : (s.setY v).pos = s.pos := rfl
@[simp] theorem State.setY_len (s : State) (v : Half) : (s.setY v).len = s.len := rfl
@[simp] theorem State.setY_lf (s : State) (v : Half) : (s.setY v).lf = s.lf := rfl
@[simp] theorem State.setY_p (s : State) (v : Half) : (s.setY v).p = s.p := rfl
@[simp] theorem State.setY_y (s : State) (v : Half) : (s.setY v).y = v := rfl
@[simp] theorem State.setY_x (s : State) (v : Half) : (s.setY v).x = s.x := rfl
@[simp] theorem State.setY_nf (s : State) (v : Half) : (s.setY v).nf = s.nf := rfl
@[simp] theorem State.setY_k (s : State) (v : Half) : (s.setY v).k = s.k := rfl
@[simp] theorem State.setY_ci (s : State) (v : Half) : (s.setY v).ci = s.ci := rfl
@[simp] theorem State.setY_hi (s : State) (v : Half) : (s.setY v).hi = s.hi := rfl
@[simp] theorem State.setY_vi (s : State) (v : Half) : (s.setY v).vi = s.vi := rfl
@[simp] theorem State.setY_tq (s : State) (v : Half) : (s.setY v).tq = s.tq := rfl
@[simp] theorem State.setY_kind (s : State) (v : Half) : (s.setY v).kind = s.kind := rfl
@[simp] theorem State.setY_err (s : State) (v : Half) : (s.setY v).err = s.err := rfl
@[simp] theorem State.setY_out (s : State) (v : Half) : (s.setY v).out = s.out := rfl
@[simp] theorem State.setY_buf (s : State) (v : Half) : (s.setY v).buf = s.buf := rfl
@[simp] theorem State.setY_pins (s : State) (v : Half) : (s.setY v).pins = s.pins := rfl
@[simp] theorem State.setY_ret (s : State) (v : Half) : (s.setY v).ret = s.ret := rfl

/-! `setX` -/

@[simp] theorem State.setX_cfg (s : State) (v : Half) : (s.setX v).cfg = s.cfg := rfl
@[simp] theorem State.setX_fsm (s : State) (v : Half) : (s.setX v).fsm = s.fsm := rfl
@[simp] theorem State.setX_pos (s : State) (v : Half) : (s.setX v).pos = s.pos := rfl
@[simp] theorem State.setX_len (s : State) (v : Half) : (s.setX v).len = s.len := rfl
@[simp] theorem State.setX_lf (s : State) (v : Half) : (s.setX v).lf = s.lf := rfl
@[simp] theorem State.setX_p (s : State) (v : Half) : (s.setX v).p = s.p := rfl
@[simp] theorem State.setX_y (s : State) (v : Half) : (s.setX v).y = s.y := rfl
@[simp] theorem State.setX_x (s : State) (v : Half) : (s.setX v).x = v := rfl
@[simp] theorem State.setX_nf (s : State) (v : Half) : (s.setX v).nf = s.nf := rfl
@[simp] theorem State.setX_k (s : State) (v : Half) : (s.setX v).k = s.k := rfl
@[simp] theorem State.setX_ci (s : State) (v : Half) : (s.setX v).ci = s.ci := rfl
@[simp] theorem State.setX_hi (s : State) (v : Half) : (s.setX v).hi = s.hi := rfl
@[simp] theorem State.setX_vi (s : State) (v : Half) : (s.setX v).vi = s.vi := rfl
@[simp] theorem State.setX_tq (s : State) (v : Half) : (s.setX v).tq = s.tq := rfl
@[simp] theorem State.setX_kind (s : State) (v : Half) : (s.setX v).kind = s.kind := rfl
@[simp] theorem State.setX_err (s : State) (v : Half) : (s.setX v).err = s.err := rfl
@[simp] theorem State.setX_out (s : State) (v : Half) : (s.setX v).out = s.out := rfl
@[simp] theorem State.setX_buf (s : State) (v : Half) : (s.setX v).buf = s.buf := rfl
@[simp] theorem State.setX_pins (s : State) (v : Half) : (s.setX v).pins = s.pins := rfl
@[simp] theorem State.setX_ret (s : State) (v : Half) : (s.setX v).ret = s.ret := rfl

/-! `setNf` -/

@[simp] theorem State.setNf_cfg (s : State) (v : Byte) : (s.setNf v).cfg = s.cfg := rfl
@[simp] theorem State.setNf_fsm (s : State) (v : Byte) : (s.setNf v).fsm = s.fsm := rfl
@[simp] theorem State.setNf_pos (s : State) (v : Byte) : (s.setNf v).pos = s.pos := rfl
@[simp] theorem State.setNf_len (s : State) (v : Byte) : (s.setNf v).len = s.len := rfl
@[simp] theorem State.setNf_lf (s : State) (v : Byte) : (s.setNf v).lf = s.lf := rfl
@[simp] theorem State.setNf_p (s : State) (v : Byte) : (s.setNf v).p = s.p := rfl
@[simp] theorem State.setNf_y (s : State) (v : Byte) : (s.setNf v).y = s.y := rfl
@[simp] theorem State.setNf_x (s : State) (v : Byte) : (s.setNf v).x = s.x := rfl
@[simp] theorem State.setNf_nf (s : State) (v : Byte) : (s.setNf v).nf = v := rfl
@[simp] theorem State.setNf_k (s : State) (v : Byte) : (s.setNf v).k = s.k := rfl
@[simp] theorem State.setNf_ci (s : State) (v : Byte) : (s.setNf v).ci = s.ci := rfl
@[simp] theorem State.setNf_hi (s : State) (v : Byte) : (s.setNf v).hi = s.hi := rfl
@[simp] theorem State.setNf_vi (s : State) (v : Byte) : (s.setNf v).vi = s.vi := rfl
@[simp] theorem State.setNf_tq (s : State) (v : Byte) : (s.setNf v).tq = s.tq := rfl
@[simp] theorem State.setNf_kind (s : State) (v : Byte) : (s.setNf v).kind = s.kind := rfl
@[simp] theorem State.setNf_err (s : State) (v : Byte) : (s.setNf v).err = s.err := rfl
@[simp] theorem State.setNf_out (s : State) (v : Byte) : (s.setNf v).out = s.out := rfl
@[simp] theorem State.setNf_buf (s : State) (v : Byte) : (s.setNf v).buf = s.buf := rfl
@[simp] theorem State.setNf_pins (s : State) (v : Byte) : (s.setNf v).pins = s.pins := rfl
@[simp] theorem State.setNf_ret (s : State) (v : Byte) : (s.setNf v).ret = s.ret := rfl

/-! `setK` -/

@[simp] theorem State.setK_cfg (s : State) (v : Byte) : (s.setK v).cfg = s.cfg := rfl
@[simp] theorem State.setK_fsm (s : State) (v : Byte) : (s.setK v).fsm = s.fsm := rfl
@[simp] theorem State.setK_pos (s : State) (v : Byte) : (s.setK v).pos = s.pos := rfl
@[simp] theorem State.setK_len (s : State) (v : Byte) : (s.setK v).len = s.len := rfl
@[simp] theorem State.setK_lf (s : State) (v : Byte) : (s.setK v).lf = s.lf := rfl
@[simp] theorem State.setK_p (s : State) (v : Byte) : (s.setK v).p = s.p := rfl
@[simp] theorem State.setK_y (s : State) (v : Byte) : (s.setK v).y = s.y := rfl
@[simp] theorem State.setK_x (s : State) (v : Byte) : (s.setK v).x = s.x := rfl
@[simp] theorem State.setK_nf (s : State) (v : Byte) : (s.setK v).nf = s.nf := rfl
@[simp] theorem State.setK_k (s : State) (v : Byte) : (s.setK v).k = v := rfl
@[simp] theorem State.setK_ci (s : State) (v : Byte) : (s.setK v).ci = s.ci := rfl
@[simp] theorem State.setK_hi (s : State) (v : Byte) : (s.setK v).hi = s.hi := rfl
@[simp] theorem State.setK_vi (s : State) (v : Byte) : (s.setK v).vi = s.vi := rfl
@[simp] theorem State.setK_tq (s : State) (v : Byte) : (s.setK v).tq = s.tq := rfl
@[simp] theorem State.setK_kind (s : State) (v : Byte) : (s.setK v).kind = s.kind := rfl
@[simp] theorem State.setK_err (s : State) (v : Byte) : (s.setK v).err = s.err := rfl
@[simp] theorem State.setK_out (s : State) (v : Byte) : (s.setK v).out = s.out := rfl
@[simp] theorem State.setK_buf (s : State) (v : Byte) : (s.setK v).buf = s.buf := rfl
@[simp] theorem State.setK_pins (s : State) (v : Byte) : (s.setK v).pins = s.pins := rfl
@[simp] theorem State.setK_ret (s : State) (v : Byte) : (s.setK v).ret = s.ret := rfl

/-! `setCi` -/

@[simp] theorem State.setCi_cfg (s : State) (v : Byte) : (s.setCi v).cfg = s.cfg := rfl
@[simp] theorem State.setCi_fsm (s : State) (v : Byte) : (s.setCi v).fsm = s.fsm := rfl
@[simp] theorem State.setCi_pos (s : State) (v : Byte) : (s.setCi v).pos = s.pos := rfl
@[simp] theorem State.setCi_len (s : State) (v : Byte) : (s.setCi v).len = s.len := rfl
@[simp] theorem State.setCi_lf (s : State) (v : Byte) : (s.setCi v).lf = s.lf := rfl
@[simp] theorem State.setCi_p (s : State) (v : Byte) : (s.setCi v).p = s.p := rfl
@[simp] theorem State.setCi_y (s : State) (v : Byte) : (s.setCi v).y = s.y := rfl
@[simp] theorem State.setCi_x (s : State) (v : Byte) : (s.setCi v).x = s.x := rfl
@[simp] theorem State.setCi_nf (s : State) (v : Byte) : (s.setCi v).nf = s.nf := rfl
@[simp] theorem State.setCi_k (s : State) (v : Byte) : (s.setCi v).k = s.k := rfl
@[simp] theorem State.setCi_ci (s : State) (v : Byte) : (s.setCi v).ci = v := rfl
@[simp] theorem State.setCi_hi (s : State) (v : Byte) : (s.setCi v).hi = s.hi := rfl
@[simp] theorem State.setCi_vi (s : State) (v : Byte) : (s.setCi v).vi = s.vi := rfl
@[simp] theorem State.setCi_tq (s : State) (v : Byte) : (s.setCi v).tq = s.tq := rfl
@[simp] theorem State.setCi_kind (s : State) (v : Byte) : (s.setCi v).kind = s.kind := rfl
@[simp] theorem State.setCi_err (s : State) (v : Byte) : (s.setCi v).err = s.err := rfl
@[simp] theorem State.setCi_out (s : State) (v : Byte) : (s.setCi v).out = s.out := rfl
@[simp] theorem State.setCi_buf (s : State) (v : Byte) : (s.setCi v).buf = s.buf := rfl
@[simp] theorem State.setCi_pins (s : State) (v : Byte) : (s.setCi v).pins = s.pins := rfl
@[simp] theorem State.setCi_ret (s : State) (v : Byte) : (s.setCi v).ret = s.ret := rfl

/-! `setHv` -/

@[simp] theorem State.setHv_cfg (s : State) (h v : Nibble) : (s.setHv h v).cfg = s.cfg := rfl
@[simp] theorem State.setHv_fsm (s : State) (h v : Nibble) : (s.setHv h v).fsm = s.fsm := rfl
@[simp] theorem State.setHv_pos (s : State) (h v : Nibble) : (s.setHv h v).pos = s.pos := rfl
@[simp] theorem State.setHv_len (s : State) (h v : Nibble) : (s.setHv h v).len = s.len := rfl
@[simp] theorem State.setHv_lf (s : State) (h v : Nibble) : (s.setHv h v).lf = s.lf := rfl
@[simp] theorem State.setHv_p (s : State) (h v : Nibble) : (s.setHv h v).p = s.p := rfl
@[simp] theorem State.setHv_y (s : State) (h v : Nibble) : (s.setHv h v).y = s.y := rfl
@[simp] theorem State.setHv_x (s : State) (h v : Nibble) : (s.setHv h v).x = s.x := rfl
@[simp] theorem State.setHv_nf (s : State) (h v : Nibble) : (s.setHv h v).nf = s.nf := rfl
@[simp] theorem State.setHv_k (s : State) (h v : Nibble) : (s.setHv h v).k = s.k := rfl
@[simp] theorem State.setHv_ci (s : State) (h v : Nibble) : (s.setHv h v).ci = s.ci := rfl
@[simp] theorem State.setHv_hi (s : State) (h v : Nibble) : (s.setHv h v).hi = h := rfl
@[simp] theorem State.setHv_vi (s : State) (h v : Nibble) : (s.setHv h v).vi = v := rfl
@[simp] theorem State.setHv_tq (s : State) (h v : Nibble) : (s.setHv h v).tq = s.tq := rfl
@[simp] theorem State.setHv_kind (s : State) (h v : Nibble) : (s.setHv h v).kind = s.kind := rfl
@[simp] theorem State.setHv_err (s : State) (h v : Nibble) : (s.setHv h v).err = s.err := rfl
@[simp] theorem State.setHv_out (s : State) (h v : Nibble) : (s.setHv h v).out = s.out := rfl
@[simp] theorem State.setHv_buf (s : State) (h v : Nibble) : (s.setHv h v).buf = s.buf := rfl
@[simp] theorem State.setHv_pins (s : State) (h v : Nibble) : (s.setHv h v).pins = s.pins := rfl
@[simp] theorem State.setHv_ret (s : State) (h v : Nibble) : (s.setHv h v).ret = s.ret := rfl

/-! `setTq` -/

@[simp] theorem State.setTq_cfg (s : State) (v : Byte) : (s.setTq v).cfg = s.cfg := rfl
@[simp] theorem State.setTq_fsm (s : State) (v : Byte) : (s.setTq v).fsm = s.fsm := rfl
@[simp] theorem State.setTq_pos (s : State) (v : Byte) : (s.setTq v).pos = s.pos := rfl
@[simp] theorem State.setTq_len (s : State) (v : Byte) : (s.setTq v).len = s.len := rfl
@[simp] theorem State.setTq_lf (s : State) (v : Byte) : (s.setTq v).lf = s.lf := rfl
@[simp] theorem State.setTq_p (s : State) (v : Byte) : (s.setTq v).p = s.p := rfl
@[simp] theorem State.setTq_y (s : State) (v : Byte) : (s.setTq v).y = s.y := rfl
@[simp] theorem State.setTq_x (s : State) (v : Byte) : (s.setTq v).x = s.x := rfl
@[simp] theorem State.setTq_nf (s : State) (v : Byte) : (s.setTq v).nf = s.nf := rfl
@[simp] theorem State.setTq_k (s : State) (v : Byte) : (s.setTq v).k = s.k := rfl
@[simp] theorem State.setTq_ci (s : State) (v : Byte) : (s.setTq v).ci = s.ci := rfl
@[simp] theorem State.setTq_hi (s : State) (v : Byte) : (s.setTq v).hi = s.hi := rfl
@[simp] theorem State.setTq_vi (s : State) (v : Byte) : (s.setTq v).vi = s.vi := rfl
@[simp] theorem State.setTq_tq (s : State) (v : Byte) : (s.setTq v).tq = v := rfl
@[simp] theorem State.setTq_kind (s : State) (v : Byte) : (s.setTq v).kind = s.kind := rfl
@[simp] theorem State.setTq_err (s : State) (v : Byte) : (s.setTq v).err = s.err := rfl
@[simp] theorem State.setTq_out (s : State) (v : Byte) : (s.setTq v).out = s.out := rfl
@[simp] theorem State.setTq_buf (s : State) (v : Byte) : (s.setTq v).buf = s.buf := rfl
@[simp] theorem State.setTq_pins (s : State) (v : Byte) : (s.setTq v).pins = s.pins := rfl
@[simp] theorem State.setTq_ret (s : State) (v : Byte) : (s.setTq v).ret = s.ret := rfl

/-! `setKind` -/

@[simp] theorem State.setKind_cfg (s : State) (v : Kind) : (s.setKind v).cfg = s.cfg := rfl
@[simp] theorem State.setKind_fsm (s : State) (v : Kind) : (s.setKind v).fsm = s.fsm := rfl
@[simp] theorem State.setKind_pos (s : State) (v : Kind) : (s.setKind v).pos = s.pos := rfl
@[simp] theorem State.setKind_len (s : State) (v : Kind) : (s.setKind v).len = s.len := rfl
@[simp] theorem State.setKind_lf (s : State) (v : Kind) : (s.setKind v).lf = s.lf := rfl
@[simp] theorem State.setKind_p (s : State) (v : Kind) : (s.setKind v).p = s.p := rfl
@[simp] theorem State.setKind_y (s : State) (v : Kind) : (s.setKind v).y = s.y := rfl
@[simp] theorem State.setKind_x (s : State) (v : Kind) : (s.setKind v).x = s.x := rfl
@[simp] theorem State.setKind_nf (s : State) (v : Kind) : (s.setKind v).nf = s.nf := rfl
@[simp] theorem State.setKind_k (s : State) (v : Kind) : (s.setKind v).k = s.k := rfl
@[simp] theorem State.setKind_ci (s : State) (v : Kind) : (s.setKind v).ci = s.ci := rfl
@[simp] theorem State.setKind_hi (s : State) (v : Kind) : (s.setKind v).hi = s.hi := rfl
@[simp] theorem State.setKind_vi (s : State) (v : Kind) : (s.setKind v).vi = s.vi := rfl
@[simp] theorem State.setKind_tq (s : State) (v : Kind) : (s.setKind v).tq = s.tq := rfl
@[simp] theorem State.setKind_kind (s : State) (v : Kind) : (s.setKind v).kind = v := rfl
@[simp] theorem State.setKind_err (s : State) (v : Kind) : (s.setKind v).err = s.err := rfl
@[simp] theorem State.setKind_out (s : State) (v : Kind) : (s.setKind v).out = s.out := rfl
@[simp] theorem State.setKind_buf (s : State) (v : Kind) : (s.setKind v).buf = s.buf := rfl
@[simp] theorem State.setKind_pins (s : State) (v : Kind) : (s.setKind v).pins = s.pins := rfl
@[simp] theorem State.setKind_ret (s : State) (v : Kind) : (s.setKind v).ret = s.ret := rfl

/-! `giveBack` -/

@[simp] theorem State.giveBack_cfg (s : State) (v : Returned) : (s.giveBack v).cfg = s.cfg := rfl
@[simp] theorem State.giveBack_fsm (s : State) (v : Returned) : (s.giveBack v).fsm = s.fsm := rfl
@[simp] theorem State.giveBack_pos (s : State) (v : Returned) : (s.giveBack v).pos = s.pos := rfl
@[simp] theorem State.giveBack_len (s : State) (v : Returned) : (s.giveBack v).len = s.len := rfl
@[simp] theorem State.giveBack_lf (s : State) (v : Returned) : (s.giveBack v).lf = s.lf := rfl
@[simp] theorem State.giveBack_p (s : State) (v : Returned) : (s.giveBack v).p = s.p := rfl
@[simp] theorem State.giveBack_y (s : State) (v : Returned) : (s.giveBack v).y = s.y := rfl
@[simp] theorem State.giveBack_x (s : State) (v : Returned) : (s.giveBack v).x = s.x := rfl
@[simp] theorem State.giveBack_nf (s : State) (v : Returned) : (s.giveBack v).nf = s.nf := rfl
@[simp] theorem State.giveBack_k (s : State) (v : Returned) : (s.giveBack v).k = s.k := rfl
@[simp] theorem State.giveBack_ci (s : State) (v : Returned) : (s.giveBack v).ci = s.ci := rfl
@[simp] theorem State.giveBack_hi (s : State) (v : Returned) : (s.giveBack v).hi = s.hi := rfl
@[simp] theorem State.giveBack_vi (s : State) (v : Returned) : (s.giveBack v).vi = s.vi := rfl
@[simp] theorem State.giveBack_tq (s : State) (v : Returned) : (s.giveBack v).tq = s.tq := rfl
@[simp] theorem State.giveBack_kind (s : State) (v : Returned) : (s.giveBack v).kind = s.kind := rfl
@[simp] theorem State.giveBack_err (s : State) (v : Returned) : (s.giveBack v).err = s.err := rfl
@[simp] theorem State.giveBack_out (s : State) (v : Returned) : (s.giveBack v).out = s.out := rfl
@[simp] theorem State.giveBack_buf (s : State) (v : Returned) : (s.giveBack v).buf = s.buf := rfl
@[simp] theorem State.giveBack_pins (s : State) (v : Returned) : (s.giveBack v).pins = s.pins := rfl
@[simp] theorem State.giveBack_ret (s : State) (v : Returned) : (s.giveBack v).ret = v := rfl

/-! `emit` -/

@[simp] theorem State.emit_cfg (s : State) (r : Record) : (s.emit r).cfg = s.cfg := rfl
@[simp] theorem State.emit_fsm (s : State) (r : Record) : (s.emit r).fsm = s.fsm := rfl
@[simp] theorem State.emit_pos (s : State) (r : Record) : (s.emit r).pos = s.pos := rfl
@[simp] theorem State.emit_len (s : State) (r : Record) : (s.emit r).len = s.len := rfl
@[simp] theorem State.emit_lf (s : State) (r : Record) : (s.emit r).lf = s.lf := rfl
@[simp] theorem State.emit_p (s : State) (r : Record) : (s.emit r).p = s.p := rfl
@[simp] theorem State.emit_y (s : State) (r : Record) : (s.emit r).y = s.y := rfl
@[simp] theorem State.emit_x (s : State) (r : Record) : (s.emit r).x = s.x := rfl
@[simp] theorem State.emit_nf (s : State) (r : Record) : (s.emit r).nf = s.nf := rfl
@[simp] theorem State.emit_k (s : State) (r : Record) : (s.emit r).k = s.k := rfl
@[simp] theorem State.emit_ci (s : State) (r : Record) : (s.emit r).ci = s.ci := rfl
@[simp] theorem State.emit_hi (s : State) (r : Record) : (s.emit r).hi = s.hi := rfl
@[simp] theorem State.emit_vi (s : State) (r : Record) : (s.emit r).vi = s.vi := rfl
@[simp] theorem State.emit_tq (s : State) (r : Record) : (s.emit r).tq = s.tq := rfl
@[simp] theorem State.emit_kind (s : State) (r : Record) : (s.emit r).kind = s.kind := rfl
@[simp] theorem State.emit_err (s : State) (r : Record) : (s.emit r).err = s.err := rfl
@[simp] theorem State.emit_out (s : State) (r : Record) : (s.emit r).out = s.out ++ [r] := rfl
@[simp] theorem State.emit_buf (s : State) (r : Record) : (s.emit r).buf = s.buf := rfl
@[simp] theorem State.emit_pins (s : State) (r : Record) : (s.emit r).pins = s.pins := rfl
@[simp] theorem State.emit_ret (s : State) (r : Record) : (s.emit r).ret = s.ret := rfl

/-! `emitField` -/

@[simp] theorem State.emitField_cfg (s : State) {w : Nat} (n : FieldName) (i : Byte) (v : BitVec w) : (s.emitField n i v).cfg = s.cfg := rfl
@[simp] theorem State.emitField_fsm (s : State) {w : Nat} (n : FieldName) (i : Byte) (v : BitVec w) : (s.emitField n i v).fsm = s.fsm := rfl
@[simp] theorem State.emitField_pos (s : State) {w : Nat} (n : FieldName) (i : Byte) (v : BitVec w) : (s.emitField n i v).pos = s.pos := rfl
@[simp] theorem State.emitField_len (s : State) {w : Nat} (n : FieldName) (i : Byte) (v : BitVec w) : (s.emitField n i v).len = s.len := rfl
@[simp] theorem State.emitField_lf (s : State) {w : Nat} (n : FieldName) (i : Byte) (v : BitVec w) : (s.emitField n i v).lf = s.lf := rfl
@[simp] theorem State.emitField_p (s : State) {w : Nat} (n : FieldName) (i : Byte) (v : BitVec w) : (s.emitField n i v).p = s.p := rfl
@[simp] theorem State.emitField_y (s : State) {w : Nat} (n : FieldName) (i : Byte) (v : BitVec w) : (s.emitField n i v).y = s.y := rfl
@[simp] theorem State.emitField_x (s : State) {w : Nat} (n : FieldName) (i : Byte) (v : BitVec w) : (s.emitField n i v).x = s.x := rfl
@[simp] theorem State.emitField_nf (s : State) {w : Nat} (n : FieldName) (i : Byte) (v : BitVec w) : (s.emitField n i v).nf = s.nf := rfl
@[simp] theorem State.emitField_k (s : State) {w : Nat} (n : FieldName) (i : Byte) (v : BitVec w) : (s.emitField n i v).k = s.k := rfl
@[simp] theorem State.emitField_ci (s : State) {w : Nat} (n : FieldName) (i : Byte) (v : BitVec w) : (s.emitField n i v).ci = s.ci := rfl
@[simp] theorem State.emitField_hi (s : State) {w : Nat} (n : FieldName) (i : Byte) (v : BitVec w) : (s.emitField n i v).hi = s.hi := rfl
@[simp] theorem State.emitField_vi (s : State) {w : Nat} (n : FieldName) (i : Byte) (v : BitVec w) : (s.emitField n i v).vi = s.vi := rfl
@[simp] theorem State.emitField_tq (s : State) {w : Nat} (n : FieldName) (i : Byte) (v : BitVec w) : (s.emitField n i v).tq = s.tq := rfl
@[simp] theorem State.emitField_kind (s : State) {w : Nat} (n : FieldName) (i : Byte) (v : BitVec w) : (s.emitField n i v).kind = s.kind := rfl
@[simp] theorem State.emitField_err (s : State) {w : Nat} (n : FieldName) (i : Byte) (v : BitVec w) : (s.emitField n i v).err = s.err := rfl
@[simp] theorem State.emitField_out (s : State) {w : Nat} (n : FieldName) (i : Byte) (v : BitVec w) : (s.emitField n i v).out = s.out ++ [fieldRecord n i v] := rfl
@[simp] theorem State.emitField_buf (s : State) {w : Nat} (n : FieldName) (i : Byte) (v : BitVec w) : (s.emitField n i v).buf = s.buf := rfl
@[simp] theorem State.emitField_pins (s : State) {w : Nat} (n : FieldName) (i : Byte) (v : BitVec w) : (s.emitField n i v).pins = s.pins := rfl
@[simp] theorem State.emitField_ret (s : State) {w : Nat} (n : FieldName) (i : Byte) (v : BitVec w) : (s.emitField n i v).ret = s.ret := rfl

/-! `raise` -/

@[simp] theorem State.raise_cfg (s : State) (e : ErrCode) : (s.raise e).cfg = s.cfg := rfl
@[simp] theorem State.raise_fsm (s : State) (e : ErrCode) : (s.raise e).fsm = .error := rfl
@[simp] theorem State.raise_pos (s : State) (e : ErrCode) : (s.raise e).pos = s.pos := rfl
@[simp] theorem State.raise_len (s : State) (e : ErrCode) : (s.raise e).len = s.len := rfl
@[simp] theorem State.raise_lf (s : State) (e : ErrCode) : (s.raise e).lf = s.lf := rfl
@[simp] theorem State.raise_p (s : State) (e : ErrCode) : (s.raise e).p = s.p := rfl
@[simp] theorem State.raise_y (s : State) (e : ErrCode) : (s.raise e).y = s.y := rfl
@[simp] theorem State.raise_x (s : State) (e : ErrCode) : (s.raise e).x = s.x := rfl
@[simp] theorem State.raise_nf (s : State) (e : ErrCode) : (s.raise e).nf = s.nf := rfl
@[simp] theorem State.raise_k (s : State) (e : ErrCode) : (s.raise e).k = s.k := rfl
@[simp] theorem State.raise_ci (s : State) (e : ErrCode) : (s.raise e).ci = s.ci := rfl
@[simp] theorem State.raise_hi (s : State) (e : ErrCode) : (s.raise e).hi = s.hi := rfl
@[simp] theorem State.raise_vi (s : State) (e : ErrCode) : (s.raise e).vi = s.vi := rfl
@[simp] theorem State.raise_tq (s : State) (e : ErrCode) : (s.raise e).tq = s.tq := rfl
@[simp] theorem State.raise_kind (s : State) (e : ErrCode) : (s.raise e).kind = s.kind := rfl
@[simp] theorem State.raise_err (s : State) (e : ErrCode) : (s.raise e).err = e := rfl
@[simp] theorem State.raise_out (s : State) (e : ErrCode) : (s.raise e).out = s.out := rfl
@[simp] theorem State.raise_buf (s : State) (e : ErrCode) : (s.raise e).buf = s.buf := rfl
@[simp] theorem State.raise_pins (s : State) (e : ErrCode) : (s.raise e).pins = s.pins := rfl
@[simp] theorem State.raise_ret (s : State) (e : ErrCode) : (s.raise e).ret = s.ret := rfl

/-! `advance` -/

@[simp] theorem State.advance_cfg (s : State) : s.advance.cfg = s.cfg := rfl
@[simp] theorem State.advance_fsm (s : State) : s.advance.fsm = s.fsm := rfl
@[simp] theorem State.advance_pos (s : State) : s.advance.pos = s.pos + 1 := rfl
@[simp] theorem State.advance_len (s : State) : s.advance.len = s.len := rfl
@[simp] theorem State.advance_lf (s : State) : s.advance.lf = s.lf := rfl
@[simp] theorem State.advance_p (s : State) : s.advance.p = s.p := rfl
@[simp] theorem State.advance_y (s : State) : s.advance.y = s.y := rfl
@[simp] theorem State.advance_x (s : State) : s.advance.x = s.x := rfl
@[simp] theorem State.advance_nf (s : State) : s.advance.nf = s.nf := rfl
@[simp] theorem State.advance_k (s : State) : s.advance.k = s.k := rfl
@[simp] theorem State.advance_ci (s : State) : s.advance.ci = s.ci := rfl
@[simp] theorem State.advance_hi (s : State) : s.advance.hi = s.hi := rfl
@[simp] theorem State.advance_vi (s : State) : s.advance.vi = s.vi := rfl
@[simp] theorem State.advance_tq (s : State) : s.advance.tq = s.tq := rfl
@[simp] theorem State.advance_kind (s : State) : s.advance.kind = s.kind := rfl
@[simp] theorem State.advance_err (s : State) : s.advance.err = s.err := rfl
@[simp] theorem State.advance_out (s : State) : s.advance.out = s.out := rfl
@[simp] theorem State.advance_buf (s : State) : s.advance.buf = s.buf := rfl
@[simp] theorem State.advance_pins (s : State) : s.advance.pins = s.pins := rfl
@[simp] theorem State.advance_ret (s : State) : s.advance.ret = s.ret := rfl

/-! `beginRun` -/

@[simp] theorem State.beginRun_cfg (s : State) (n : Nat) : (s.beginRun n).cfg = s.cfg := rfl
@[simp] theorem State.beginRun_fsm (s : State) (n : Nat) : (s.beginRun n).fsm = .soi := rfl
@[simp] theorem State.beginRun_pos (s : State) (n : Nat) : (s.beginRun n).pos = 0 := rfl
@[simp] theorem State.beginRun_len (s : State) (n : Nat) : (s.beginRun n).len = n := rfl
@[simp] theorem State.beginRun_lf (s : State) (n : Nat) : (s.beginRun n).lf = s.lf := rfl
@[simp] theorem State.beginRun_p (s : State) (n : Nat) : (s.beginRun n).p = s.p := rfl
@[simp] theorem State.beginRun_y (s : State) (n : Nat) : (s.beginRun n).y = s.y := rfl
@[simp] theorem State.beginRun_x (s : State) (n : Nat) : (s.beginRun n).x = s.x := rfl
@[simp] theorem State.beginRun_nf (s : State) (n : Nat) : (s.beginRun n).nf = s.nf := rfl
@[simp] theorem State.beginRun_k (s : State) (n : Nat) : (s.beginRun n).k = s.k := rfl
@[simp] theorem State.beginRun_ci (s : State) (n : Nat) : (s.beginRun n).ci = s.ci := rfl
@[simp] theorem State.beginRun_hi (s : State) (n : Nat) : (s.beginRun n).hi = s.hi := rfl
@[simp] theorem State.beginRun_vi (s : State) (n : Nat) : (s.beginRun n).vi = s.vi := rfl
@[simp] theorem State.beginRun_tq (s : State) (n : Nat) : (s.beginRun n).tq = s.tq := rfl
@[simp] theorem State.beginRun_kind (s : State) (n : Nat) : (s.beginRun n).kind = .none := rfl
@[simp] theorem State.beginRun_err (s : State) (n : Nat) : (s.beginRun n).err = .none := rfl
@[simp] theorem State.beginRun_out (s : State) (n : Nat) : (s.beginRun n).out = [] := rfl
@[simp] theorem State.beginRun_buf (s : State) (n : Nat) : (s.beginRun n).buf = s.buf := rfl
@[simp] theorem State.beginRun_pins (s : State) (n : Nat) : (s.beginRun n).pins = s.pins := rfl
@[simp] theorem State.beginRun_ret (s : State) (n : Nat) : (s.beginRun n).ret = s.ret := rfl

/-! `popPins` -/

@[simp] theorem State.popPins_cfg (s : State) : s.popPins.cfg = s.cfg := rfl
@[simp] theorem State.popPins_fsm (s : State) : s.popPins.fsm = s.fsm := rfl
@[simp] theorem State.popPins_pos (s : State) : s.popPins.pos = s.pos := rfl
@[simp] theorem State.popPins_len (s : State) : s.popPins.len = s.len := rfl
@[simp] theorem State.popPins_lf (s : State) : s.popPins.lf = s.lf := rfl
@[simp] theorem State.popPins_p (s : State) : s.popPins.p = s.p := rfl
@[simp] theorem State.popPins_y (s : State) : s.popPins.y = s.y := rfl
@[simp] theorem State.popPins_x (s : State) : s.popPins.x = s.x := rfl
@[simp] theorem State.popPins_nf (s : State) : s.popPins.nf = s.nf := rfl
@[simp] theorem State.popPins_k (s : State) : s.popPins.k = s.k := rfl
@[simp] theorem State.popPins_ci (s : State) : s.popPins.ci = s.ci := rfl
@[simp] theorem State.popPins_hi (s : State) : s.popPins.hi = s.hi := rfl
@[simp] theorem State.popPins_vi (s : State) : s.popPins.vi = s.vi := rfl
@[simp] theorem State.popPins_tq (s : State) : s.popPins.tq = s.tq := rfl
@[simp] theorem State.popPins_kind (s : State) : s.popPins.kind = s.kind := rfl
@[simp] theorem State.popPins_err (s : State) : s.popPins.err = s.err := rfl
@[simp] theorem State.popPins_out (s : State) : s.popPins.out = s.out := rfl
@[simp] theorem State.popPins_buf (s : State) : s.popPins.buf = s.buf := rfl
@[simp] theorem State.popPins_pins (s : State) : s.popPins.pins = s.pins.tail := rfl
@[simp] theorem State.popPins_ret (s : State) : s.popPins.ret = s.ret := rfl

/-! `loadFile` -/

@[simp] theorem State.loadFile_cfg (s : State) (f : List Byte) : (s.loadFile f).cfg = s.cfg := rfl
@[simp] theorem State.loadFile_fsm (s : State) (f : List Byte) : (s.loadFile f).fsm = s.fsm := rfl
@[simp] theorem State.loadFile_pos (s : State) (f : List Byte) : (s.loadFile f).pos = s.pos := rfl
@[simp] theorem State.loadFile_len (s : State) (f : List Byte) : (s.loadFile f).len = s.len := rfl
@[simp] theorem State.loadFile_lf (s : State) (f : List Byte) : (s.loadFile f).lf = s.lf := rfl
@[simp] theorem State.loadFile_p (s : State) (f : List Byte) : (s.loadFile f).p = s.p := rfl
@[simp] theorem State.loadFile_y (s : State) (f : List Byte) : (s.loadFile f).y = s.y := rfl
@[simp] theorem State.loadFile_x (s : State) (f : List Byte) : (s.loadFile f).x = s.x := rfl
@[simp] theorem State.loadFile_nf (s : State) (f : List Byte) : (s.loadFile f).nf = s.nf := rfl
@[simp] theorem State.loadFile_k (s : State) (f : List Byte) : (s.loadFile f).k = s.k := rfl
@[simp] theorem State.loadFile_ci (s : State) (f : List Byte) : (s.loadFile f).ci = s.ci := rfl
@[simp] theorem State.loadFile_hi (s : State) (f : List Byte) : (s.loadFile f).hi = s.hi := rfl
@[simp] theorem State.loadFile_vi (s : State) (f : List Byte) : (s.loadFile f).vi = s.vi := rfl
@[simp] theorem State.loadFile_tq (s : State) (f : List Byte) : (s.loadFile f).tq = s.tq := rfl
@[simp] theorem State.loadFile_kind (s : State) (f : List Byte) : (s.loadFile f).kind = s.kind := rfl
@[simp] theorem State.loadFile_err (s : State) (f : List Byte) : (s.loadFile f).err = s.err := rfl
@[simp] theorem State.loadFile_out (s : State) (f : List Byte) : (s.loadFile f).out = s.out := rfl
@[simp] theorem State.loadFile_buf (s : State) (f : List Byte) : (s.loadFile f).buf = Mem.writeAll [] 0 f := rfl
@[simp] theorem State.loadFile_pins (s : State) (f : List Byte) : (s.loadFile f).pins = s.pins := rfl
@[simp] theorem State.loadFile_ret (s : State) (f : List Byte) : (s.loadFile f).ret = s.ret := rfl

/-! `resetBlock` -/

@[simp] theorem State.resetBlock_cfg (s : State) : s.resetBlock.cfg = s.cfg := rfl
@[simp] theorem State.resetBlock_fsm (s : State) : s.resetBlock.fsm = .idle := rfl
@[simp] theorem State.resetBlock_pos (s : State) : s.resetBlock.pos = 0 := rfl
@[simp] theorem State.resetBlock_len (s : State) : s.resetBlock.len = 0 := rfl
@[simp] theorem State.resetBlock_lf (s : State) : s.resetBlock.lf = 0#16 := rfl
@[simp] theorem State.resetBlock_p (s : State) : s.resetBlock.p = 0#8 := rfl
@[simp] theorem State.resetBlock_y (s : State) : s.resetBlock.y = 0#16 := rfl
@[simp] theorem State.resetBlock_x (s : State) : s.resetBlock.x = 0#16 := rfl
@[simp] theorem State.resetBlock_nf (s : State) : s.resetBlock.nf = 0#8 := rfl
@[simp] theorem State.resetBlock_k (s : State) : s.resetBlock.k = 0#8 := rfl
@[simp] theorem State.resetBlock_ci (s : State) : s.resetBlock.ci = 0#8 := rfl
@[simp] theorem State.resetBlock_hi (s : State) : s.resetBlock.hi = 0#4 := rfl
@[simp] theorem State.resetBlock_vi (s : State) : s.resetBlock.vi = 0#4 := rfl
@[simp] theorem State.resetBlock_tq (s : State) : s.resetBlock.tq = 0#8 := rfl
@[simp] theorem State.resetBlock_kind (s : State) : s.resetBlock.kind = .none := rfl
@[simp] theorem State.resetBlock_err (s : State) : s.resetBlock.err = .none := rfl
@[simp] theorem State.resetBlock_out (s : State) : s.resetBlock.out = [] := rfl
@[simp] theorem State.resetBlock_buf (s : State) : s.resetBlock.buf = s.buf := rfl
@[simp] theorem State.resetBlock_pins (s : State) : s.resetBlock.pins = s.pins := rfl
@[simp] theorem State.resetBlock_ret (s : State) : s.resetBlock.ret = .nothing := rfl

end Sys2Proof.Machine
end

