-- ==== Sys2Proof/Laws/Operands.lean ====
section
/-! SUPPORT. What each operand form can answer, once each. -/

namespace Sys2Proof.Machine

/-- `MemRead` reads the buffer. -/
@[simp] theorem State.memRead_eq (s : State) (a : Nat) (h : a < s.len) : s.memRead a h = Mem.read s.buf a := rfl

/-- PEEK1 inside the buffer. -/
theorem State.peek1_of_lt {s : State} {p : Nat} (h : p < s.len) : s.peek1 p = some (Mem.read s.buf p) := by
  simp [State.peek1, h]

/-- PEEK1 outside the buffer. -/
theorem State.peek1_of_ge {s : State} {p : Nat} (h : s.len ≤ p) : s.peek1 p = none := by
  simp [State.peek1, Nat.not_lt.mpr h]

/-- PEEK2 inside its bound. -/
theorem State.peek2_of_lt {s : State} {p : Nat} (h : p + 2 < s.len) :
    s.peek2 p = Mem.read s.buf p ++ Mem.read s.buf (p + 1) := by
  simp [State.peek2, State.be16, h]

/-- PEEK2 outside its bound. -/
theorem State.peek2_of_ge {s : State} {p : Nat} (h : s.len ≤ p + 2) : s.peek2 p = 0#16 := by
  simp [State.peek2, Nat.not_lt.mpr h]

/-- READ1 inside the buffer. -/
theorem State.read1_of_lt {s : State} (h : s.pos < s.len) :
    s.read1 = some (Mem.read s.buf s.pos, s.setPos (s.pos + 1)) := by
  simp [State.read1, State.peek1_of_lt h]

/-- READ1 outside the buffer. -/
theorem State.read1_of_ge {s : State} (h : s.len ≤ s.pos) : s.read1 = none := by
  simp [State.read1, State.peek1_of_ge h]

/-- READ2, the value and the state. -/
@[simp] theorem State.read2_eq (s : State) : s.read2 = (s.peek2 s.pos, s.setPos (s.pos + 2)) := rfl

/-- Under `LE` the loop guard is `POS <= L`. -/
theorem State.hasNext_le {s : State} (h : s.cfg.hasNextBound = .le) : s.hasNext = decide (s.pos ≤ s.len) := by
  simp [State.hasNext, h]

/-- Under `LT` the loop guard is `POS < L`. -/
theorem State.hasNext_lt {s : State} (h : s.cfg.hasNextBound = .lt) : s.hasNext = decide (s.pos < s.len) := by
  simp [State.hasNext, h]

/-- Inside the buffer the loop goes on under either setting. -/
theorem State.hasNext_of_lt {s : State} (h : s.pos < s.len) : s.hasNext = true := by
  unfold State.hasNext
  split <;> simp <;> omega

/-- Past the end of the buffer the loop ends under either setting. -/
theorem State.hasNext_of_gt {s : State} (h : s.len < s.pos) : s.hasNext = false := by
  unfold State.hasNext
  split <;> simp <;> omega

end Sys2Proof.Machine
end

