-- ==== Sys2Proof/Laws/Exec.lean ====
section
/-! SUPPORT. What the shared operations under the meanings can answer, once each. -/

namespace Sys2Proof.Machine

/-- A one-byte step inside the buffer. -/
theorem withRead1_of_lt {s : State} (f : Byte → State → State) (h : s.pos < s.len) :
    withRead1 s f = .next (f (Mem.read s.buf s.pos) (s.setPos (s.pos + 1))) := by
  simp [withRead1, State.read1_of_lt h]

/-- A one-byte step outside the buffer takes the fault. -/
theorem withRead1_of_ge {s : State} (f : Byte → State → State) (h : s.len ≤ s.pos) :
    withRead1 s f = .next (s.raise .readOor) := by
  simp [withRead1, State.read1_of_ge h]

/-- A one-byte step answers in one of two ways. -/
theorem withRead1_cases {s t : State} {f : Byte → State → State} (h : withRead1 s f = .next t) :
    (s.pos < s.len ∧ t = f (Mem.read s.buf s.pos) (s.setPos (s.pos + 1))) ∨
      (s.len ≤ s.pos ∧ t = s.raise .readOor) := by
  by_cases hl : s.pos < s.len
  · rw [withRead1_of_lt f hl] at h
    exact .inl ⟨hl, by injection h with h; exact h.symm⟩
  · rw [withRead1_of_ge f (by omega)] at h
    exact .inr ⟨by omega, by injection h with h; exact h.symm⟩

/-- A two-byte step always completes. -/
theorem withRead2_eq (s : State) (f : Half → State → State) :
    withRead2 s f = .next (f (s.peek2 s.pos) (s.setPos (s.pos + 2))) := rfl

/-- The end of D_TQ, the last component or another. -/
theorem State.nextComponent_cases (s : State) :
    (s.k.toNat + 1 = s.nf.toNat ∧ s.nextComponent = s.setFsm .scan) ∨
      (s.k.toNat + 1 ≠ s.nf.toNat ∧ s.nextComponent = (s.setK (s.k + 1#8)).setFsm .dCi) := by
  unfold State.nextComponent
  by_cases h : s.k.toNat + 1 = s.nf.toNat
  · exact .inl ⟨h, if_pos h⟩
  · exact .inr ⟨h, if_neg h⟩

/-- A branch of the SCAN step advances by one byte or enters the decoder. -/
theorem scanBranch_cases (w : Half) (s : State) :
    (w ≠ 0xFFC0#16 ∧ w ≠ 0xFFC3#16 ∧ scanBranch w s = .next s.advance) ∨
      ((w = 0xFFC0#16 ∨ w = 0xFFC3#16) ∧ scanBranch w s = .next (s.setFsm .dMark)) := by
  unfold scanBranch classify
  by_cases h1 : w.toNat ≤ 0xFF01
  · have h0 : w ≠ 0xFFC0#16 := by rintro rfl; exact absurd h1 (by decide)
    have h3 : w ≠ 0xFFC3#16 := by rintro rfl; exact absurd h1 (by decide)
    simp [h1, h0, h3, execFiller]
  · by_cases h2 : w = 0xFFFF#16
    · subst h2; simp [execFillerFfff]
    · by_cases h0 : w = 0xFFC0#16
      · subst h0; simp [execSof0]
      · by_cases h3 : w = 0xFFC3#16
        · subst h3; simp [execSof3]
        · simp [h1, h2, h0, h3, execOtherMarker]

/-- The SOI gate reads the first two bytes when they are there. -/
theorem State.hasSoi_iff (s : State) :
    s.hasSoi = true ↔ 2 ≤ s.len ∧ Mem.read s.buf 0 = 0xFF#8 ∧ Mem.read s.buf 1 = 0xD8#8 := by
  unfold State.hasSoi
  split
  · next h =>
    simp only [Bool.and_eq_true, decide_eq_true_eq, State.memRead_eq, h, true_and]
  · next h => simp [h]

end Sys2Proof.Machine
end

