-- ==== Sys2Proof/Laws/Memory.lean ====
section
/-! SUPPORT. The buffer: reads after writes, and the canonical form. -/

namespace Sys2Proof.Machine

/-- The canonical form may be weakened at its lower end. -/
theorem Mem.above_mono {a b : Nat} {m : List Host.Cell} (h : Mem.above b m = true) (hab : a ≤ b) :
    Mem.above a m = true := by
  cases m with
  | nil => rfl
  | cons c m => simp [Mem.above] at h ⊢; omega

/-- Below every listed address, nothing is listed. -/
theorem Mem.read_below {m : List Host.Cell} : ∀ {a : Nat}, Mem.wf m = true → Mem.above (a + 1) m = true →
    Mem.read m a = Mem.unlisted := by
  induction m with
  | nil => intros; rfl
  | cons c m ih =>
    intro a hw ha
    simp [Mem.wf, Mem.above] at hw ha
    have hne : c.1 ≠ a := by omega
    simp only [Mem.read, hne, if_false]
    exact ih hw.2 (Mem.above_mono hw.1.2 (by omega))

/-- Reading through a new head. -/
theorem Mem.read_cons {a : Nat} {v : Byte} {m : List Host.Cell} (hw : Mem.wf m = true)
    (ha : Mem.above (a + 1) m = true) (x : Nat) :
    Mem.read (Mem.cons a v m) x = if x = a then v else Mem.read m x := by
  unfold Mem.cons
  by_cases hv : v = Mem.unlisted
  · by_cases hx : x = a
    · subst hx; simp [hv, Mem.read_below hw ha]
    · simp [hv, hx]
  · by_cases hx : x = a
    · simp [hv, hx, Mem.read]
    · simp [hv, hx, Mem.read, Ne.symm hx]

/-- A new head keeps the canonical form. -/
theorem Mem.wf_cons {a : Nat} {v : Byte} {m : List Host.Cell} (hw : Mem.wf m = true)
    (ha : Mem.above (a + 1) m = true) : Mem.wf (Mem.cons a v m) = true := by
  unfold Mem.cons
  split
  · exact hw
  · next hv => simp [Mem.wf, hv, ha, hw]

/-- A new head is above everything its own address and the tail are above. -/
theorem Mem.above_cons {a b : Nat} {v : Byte} {m : List Host.Cell} (hb : b ≤ a) (hm : Mem.above b m = true) :
    Mem.above b (Mem.cons a v m) = true := by
  unfold Mem.cons
  split
  · exact hm
  · simpa [Mem.above] using hb

/-- A write is above everything its address and the memory are above. -/
theorem Mem.above_write {a b : Nat} {v : Byte} {m : List Host.Cell} (hw : Mem.wf m = true) (hb : b ≤ a)
    (hm : Mem.above b m = true) : Mem.above b (Mem.write m a v) = true := by
  cases m with
  | nil => exact Mem.above_cons hb rfl
  | cons c m =>
    simp only [Mem.wf, Bool.and_eq_true] at hw
    simp only [Mem.write]
    split
    · exact Mem.above_cons hb hm
    · split
      · exact Mem.above_cons hb (Mem.above_mono hw.1.2 (by simp [Mem.above] at hm; omega))
      · exact hm

/-- A write keeps the canonical form. -/
theorem Mem.wf_write (m : List Host.Cell) (a : Nat) (v : Byte) (hw : Mem.wf m = true) :
    Mem.wf (Mem.write m a v) = true := by
  induction m with
  | nil => exact Mem.wf_cons rfl rfl
  | cons c m ih =>
    have hw' := hw
    simp only [Mem.wf, Bool.and_eq_true, decide_eq_true_eq] at hw'
    simp only [Mem.write]
    split
    · next h => exact Mem.wf_cons hw (by simp [Mem.above]; omega)
    · split
      · next h => exact Mem.wf_cons hw'.2 (by rw [h]; exact hw'.1.2)
      · next h h' =>
        simp only [Mem.wf, Bool.and_eq_true, decide_eq_true_eq]
        exact ⟨⟨hw'.1.1, Mem.above_write hw'.2 (by omega) hw'.1.2⟩, ih hw'.2⟩

/-- What a write leaves to be read, at every address. -/
theorem Mem.read_write (m : List Host.Cell) (a : Nat) (v : Byte) (hw : Mem.wf m = true) (x : Nat) :
    Mem.read (Mem.write m a v) x = if x = a then v else Mem.read m x := by
  induction m with
  | nil => exact Mem.read_cons rfl rfl x
  | cons c m ih =>
    have hw' := hw
    simp only [Mem.wf, Bool.and_eq_true, decide_eq_true_eq] at hw'
    simp only [Mem.write]
    split
    · next h => exact Mem.read_cons hw (by simp [Mem.above]; omega) x
    · split
      · next h =>
        rw [Mem.read_cons hw'.2 (by rw [h]; exact hw'.1.2) x]
        by_cases hx : x = a
        · simp [hx]
        · simp [hx, Mem.read, h ▸ Ne.symm hx]
      · next h h' =>
        simp only [Mem.read, ih hw'.2]
        by_cases hx : x = a
        · subst hx; simp [Ne.symm h']
        · simp [hx]

/-- Writing many bytes keeps the canonical form. -/
theorem Mem.wf_writeAll (bs : List Byte) : ∀ (m : List Host.Cell) (a : Nat), Mem.wf m = true →
    Mem.wf (Mem.writeAll m a bs) = true := by
  induction bs with
  | nil => intro m a h; exact h
  | cons b bs ih => intro m a h; exact ih _ _ (Mem.wf_write m a b h)

/-- A loaded file is in canonical form, whatever the buffer held. -/
theorem State.loadFile_wf (s : State) (file : List Byte) : Mem.wf (s.loadFile file).buf = true :=
  Mem.wf_writeAll file [] 0 rfl

/-- The buffer at reset is in canonical form. -/
theorem State.reset_mem_wf : Mem.wf State.reset.buf = true := rfl

/-- Placing a table word keeps the canonical form. -/
theorem State.placeWord_wf (s : State) (nbits w : Nat) (h : Mem.wf s.buf = true) :
    Mem.wf (s.placeWord nbits w).buf = true := by
  unfold State.placeWord
  split
  · unfold State.placeFsm
    split <;> exact h
  · split
    · exact Mem.wf_write _ _ _ (Mem.wf_write _ _ _ h)
    · exact h

end Sys2Proof.Machine
end

