-- ==== Sys2Proof/Laws/PerInstr.lean ====
section
/-! SUPPORT. A fact about each operation as syntax: a code stands for one well-formed operation only. -/

namespace Sys2Proof.Laws.EncodeInjective

/-- No other well-formed operation has the code of `i`. -/
def Statement (i : Instr) : Prop :=
  ∀ (c : Config) (j : Instr) (e : OpCode), i.wellFormed c = true → j.wellFormed c = true → encode i = some e →
    encode j = some e → i = j

/-- Words of the class FILLER are none of the fixed codes. -/
theorem filler_ne {w : Half} (h : isFillerWord w = true) : w ≠ 0xFFFF#16 ∧ w ≠ 0xFFC0#16 ∧ w ≠ 0xFFC3#16 := by
  refine ⟨?_, ?_, ?_⟩ <;> rintro rfl <;> exact absurd h (by decide)

/-- Words of the class OTHER_MARKER are none of the fixed codes. -/
theorem otherMarker_ne {w : Half} (h : isOtherMarkerWord w = true) : w ≠ 0xFFFF#16 ∧ w ≠ 0xFFC0#16 ∧ w ≠ 0xFFC3#16 := by
  refine ⟨?_, ?_, ?_⟩ <;> rintro rfl <;> exact absurd h (by decide)

/-- The classes FILLER and OTHER_MARKER share no word. -/
theorem filler_not_other {w : Half} (h : isFillerWord w = true) : isOtherMarkerWord w = false := by
  simp only [isFillerWord, decide_eq_true_eq] at h
  have h' : ¬ 0xFF02 ≤ w.toNat := by omega
  simp [isOtherMarkerWord, h']

/-- The words of the marker classes that stand for one code each are outside the other two. -/
theorem fixed_words :
    isFillerWord 0xFFFF#16 = false ∧ isFillerWord 0xFFC0#16 = false ∧ isFillerWord 0xFFC3#16 = false ∧
      isOtherMarkerWord 0xFFFF#16 = false ∧ isOtherMarkerWord 0xFFC0#16 = false ∧
      isOtherMarkerWord 0xFFC3#16 = false := by decide

theorem filler (w : Half) : Statement (.filler w) := by
  intro c j e hi hj he hje
  obtain ⟨f1, f2, f3, f4, f5, f6⟩ := fixed_words
  cases j <;> simp [encode] at he hje <;> subst he <;> simp_all [Instr.wellFormed, filler_not_other]

theorem fillerFfff : Statement .fillerFfff := by
  intro c j e hi hj he hje
  obtain ⟨f1, f2, f3, f4, f5, f6⟩ := fixed_words
  cases j <;> simp [encode] at he hje <;> subst he <;> simp_all [Instr.wellFormed]

theorem sof0 : Statement .sof0 := by
  intro c j e hi hj he hje
  obtain ⟨f1, f2, f3, f4, f5, f6⟩ := fixed_words
  cases j <;> simp [encode] at he hje <;> subst he <;> simp_all [Instr.wellFormed]

theorem sof3 : Statement .sof3 := by
  intro c j e hi hj he hje
  obtain ⟨f1, f2, f3, f4, f5, f6⟩ := fixed_words
  cases j <;> simp [encode] at he hje <;> subst he <;> simp_all [Instr.wellFormed]

theorem otherMarker (w : Half) : Statement (.otherMarker w) := by
  intro c j e hi hj he hje
  obtain ⟨f1, f2, f3, f4, f5, f6⟩ := fixed_words
  cases j <;> simp [encode] at he hje <;> subst he <;> simp_all [Instr.wellFormed, filler_not_other]

theorem start (n : Nat) : Statement (.start n) := by
  intro c j e hi hj he hje
  cases j <;> simp [encode] at he hje <;> subst he <;> simp_all

theorem soi : Statement .soi := by
  intro c j e hi hj he hje
  cases j <;> simp [encode] at he hje <;> subst he <;> simp_all

theorem scan : Statement .scan := by
  intro c j e hi hj he hje
  cases j <;> simp [encode] at he hje <;> subst he <;> simp_all

theorem dMark : Statement .dMark := by
  intro c j e hi hj he hje
  cases j <;> simp [encode] at he hje <;> subst he <;> simp_all

theorem dLf : Statement .dLf := by
  intro c j e hi hj he hje
  cases j <;> simp [encode] at he hje <;> subst he <;> simp_all

theorem dP : Statement .dP := by
  intro c j e hi hj he hje
  cases j <;> simp [encode] at he hje <;> subst he <;> simp_all

theorem dY : Statement .dY := by
  intro c j e hi hj he hje
  cases j <;> simp [encode] at he hje <;> subst he <;> simp_all

theorem dX : Statement .dX := by
  intro c j e hi hj he hje
  cases j <;> simp [encode] at he hje <;> subst he <;> simp_all

theorem dNf : Statement .dNf := by
  intro c j e hi hj he hje
  cases j <;> simp [encode] at he hje <;> subst he <;> simp_all

theorem dCi : Statement .dCi := by
  intro c j e hi hj he hje
  cases j <;> simp [encode] at he hje <;> subst he <;> simp_all

theorem dHv : Statement .dHv := by
  intro c j e hi hj he hje
  cases j <;> simp [encode] at he hje <;> subst he <;> simp_all

theorem dTq : Statement .dTq := by
  intro c j e hi hj he hje
  cases j <;> simp [encode] at he hje <;> subst he <;> simp_all

theorem peek1 (p : Nat) : Statement (.peek1 p) := by
  intro c j e hi hj he hje
  simp [encode] at he

theorem peek2 (p : Nat) : Statement (.peek2 p) := by
  intro c j e hi hj he hje
  simp [encode] at he

theorem read1 : Statement .read1 := by
  intro c j e hi hj he hje
  simp [encode] at he

theorem read2 : Statement .read2 := by
  intro c j e hi hj he hje
  simp [encode] at he

theorem advance : Statement .advance := by
  intro c j e hi hj he hje
  simp [encode] at he

theorem hasNext : Statement .hasNext := by
  intro c j e hi hj he hje
  simp [encode] at he

theorem hasLookahead : Statement .hasLookahead := by
  intro c j e hi hj he hje
  simp [encode] at he

end Sys2Proof.Laws.EncodeInjective
end

