-- ==== Sys2Proof/Laws/Step.lean ====
section
/-! SUPPORT. The step of a machine whose host meets its duties and gives no command. -/

namespace Sys2Proof.Machine

/-- With no sample left, the pins rest. -/
theorem State.pinsNow_nil {s : State} (h : s.pins = []) : s.pinsNow = PinSample.rest := by
  simp [State.pinsNow, h]

/-- With no sample left, none is used up. -/
theorem State.popPins_nil {s : State} (h : s.pins = []) : s.popPins = s := by
  cases s; simp_all [State.popPins]

/-- With the pins at rest no step is held up. -/
theorem State.stalled_nil {s : State} (h : s.pins = []) (i : Instr) : s.stalled i = false := by
  simp [State.stalled, State.pinsNow_nil h, PinSample.rest]

/-- With the pins at rest `STATE` alone selects. -/
theorem State.select_nil {s : State} (h : s.pins = []) : s.selector = .fsmState s.fsm.code := by
  simp [State.selector, State.pinsNow_nil h, PinSample.rest]

/-- With the pins at rest a step is the meaning of the operation `STATE` selects. -/
theorem step_quiet {s : State} {i : Instr} (h : s.pins = []) (hi : decodeFsm s.fsm.code = .ok i) :
    step s = exec i s := by
  simp [step, State.pinsNow_nil h, PinSample.rest, State.select, State.select_nil h, decode, hi,
    State.stalled_nil h, State.popPins_nil h]

/-- With the pins at rest an idle machine stays as it is. -/
theorem step_quiet_idle {s : State} {e : DecodeError} (h : s.pins = []) (hi : decodeFsm s.fsm.code = .error e) :
    step s = .next s := by
  simp [step, State.pinsNow_nil h, PinSample.rest, State.select, State.select_nil h, decode, hi,
    State.popPins_nil h]

end Sys2Proof.Machine
end

