-- ==== Sys2Proof/Tests/Slice0.lean ====
section
/-! SUPPORT. Tests of one step or one code each, with results taken from spec/95_test_vectors.md and the rules' examples, and
witnesses for the hypotheses of the statements. -/

namespace Sys2Proof.Tests

open Sys2Proof Sys2Proof.Machine

/-! ## Helpers -/

/-- A machine with the file in its buffer, `L` its length, in state `f` at `pos`. -/
def at_ (f : Fsm) (pos : Nat) (file : List Byte) : State :=
  { State.reset.loadFile file with fsm := f, pos := pos, len := file.length }

/-- The same with the guard `position < L`. -/
def atLt (f : Fsm) (pos : Nat) (file : List Byte) : State :=
  { at_ f pos file with cfg := { lenW := 32, hasNextBound := .lt } }

/-- What a fact about the next state says of an outcome: false unless there is a next state. -/
def nextIs (o : Host.Outcome State Fault Refusal) (good : State → Bool) : Bool :=
  match o with
  | .next t => good t
  | .fault _ => false
  | .refused _ => false

/-- The buffer of D0's example (W2, PR1). -/
def pr1 : List Byte := [0xFF, 0xD8, 0xFF, 0xC0, 0x00, 0x11, 0x08, 0x01, 0x00, 0x01, 0x40, 0x01, 0x01, 0x22, 0x00]

/-- The buffer of PR3, cut off after `P`. -/
def pr3 : List Byte := [0xFF, 0xD8, 0xFF, 0xC0, 0x00, 0x0B, 0x08, 0x00]

/-- A start pulse with `buf_len`. -/
def pulse (n : Nat) : PinSample := { rst := false, start := true, bufLen := n, memAck := true, recReady := true }

/-- A reset pulse. -/
def resetPulse : PinSample := { rst := true, start := true, bufLen := 9, memAck := true, recReady := true }

/-- A host that does not answer reads. -/
def deaf : PinSample := { rst := false, start := false, bufLen := 0, memAck := false, recReady := true }

/-- A host that takes no record. -/
def full : PinSample := { rst := false, start := false, bufLen := 0, memAck := true, recReady := false }

/-! ## Well-formed operands: an ill-formed one for each check -/

theorem test_wf_filler : (Instr.filler 0xFF01).wellFormed .default = true ∧
    (Instr.filler 0xFF02).wellFormed .default = false := by decide
theorem test_wf_otherMarker : (Instr.otherMarker 0xFF02).wellFormed .default = true ∧
    (Instr.otherMarker 0xFF01).wellFormed .default = false ∧ (Instr.otherMarker 0xFFFF).wellFormed .default = false ∧
    (Instr.otherMarker 0xFFC0).wellFormed .default = false ∧
    (Instr.otherMarker 0xFFC3).wellFormed .default = false := by decide
theorem test_wf_start : (Instr.start 4294967295).wellFormed .default = true ∧
    (Instr.start 4294967296).wellFormed .default = false := by decide
theorem test_wf_peek1 : (Instr.peek1 8589934591).wellFormed .default = true ∧
    (Instr.peek1 8589934592).wellFormed .default = false := by decide
theorem test_wf_peek2 : (Instr.peek2 8589934592).wellFormed .default = false := by decide

/-! ## Decoding: words written out from R71 and R21 -/

/-- 95 2.2: 0x0000, 0xD8FF, 0xFF01 are FILLER. -/
theorem test_decode_filler : decodeTableWord 16 0x0000 = some (.filler 0x0000) ∧
    decodeTableWord 16 0xD8FF = some (.filler 0xD8FF) ∧ decodeTableWord 16 0xFF01 = some (.filler 0xFF01) := by decide
theorem test_decode_fillerFfff : decodeTableWord 16 0xFFFF = some .fillerFfff := by decide
theorem test_decode_sof0 : decodeTableWord 16 0xFFC0 = some .sof0 := by decide
theorem test_decode_sof3 : decodeTableWord 16 0xFFC3 = some .sof3 := by decide
/-- 95 2.2: 0xFF02, 0xFFC2, 0xFFD8, 0xFFFE are OTHER_MARKER. -/
theorem test_decode_otherMarker : decodeTableWord 16 0xFF02 = some (.otherMarker 0xFF02) ∧
    decodeTableWord 16 0xFFC2 = some (.otherMarker 0xFFC2) ∧ decodeTableWord 16 0xFFD8 = some (.otherMarker 0xFFD8) ∧
    decodeTableWord 16 0xFFFE = some (.otherMarker 0xFFFE) := by decide
theorem test_decode_start : decode (.command true 15) = .ok (.start 15) ∧
    decode (.command false 15) = .error .noCommand := by decide
/-- R21: the codes 1 to 11. -/
theorem test_decode_steps : (List.range 12).map (decodeTableWord 8) =
    [none, some .soi, some .scan, some .dMark, some .dLf, some .dP, some .dY, some .dX, some .dNf, some .dCi, some .dHv,
      some .dTq] := by decide
theorem test_decode_idle : decodeFsm 0 = .error .idleState ∧ decodeFsm 12 = .error .idleState ∧
    decodeFsm 13 = .error .idleState := by decide
theorem test_decode_reserved : decodeFsm 14 = .error .reservedState ∧ decodeFsm 15 = .error .reservedState := by decide
theorem test_decode_bad_format : decodeTable 8 16 = .error .stateTooWide ∧ decodeTable 17 0 = .error .noSuchFormat ∧
    decodeBytes [0xFF] = .error .wordTooShort := by decide
/-- R52: the byte at the lower address is the more significant. -/
theorem test_decode_bytes : decodeBytes [0xFF, 0xC3, 0x08] = .ok (.sof3, [0x08]) := by decide

/-! ## The cursor (95 2.1) -/

/-- C1, C2. -/
theorem test_peek1 : nextIs (exec (.peek1 2) (at_ .scan 0 [0xFF, 0xD8, 0x08])) (fun t => t.ret == .byte 0x08 && t.pos == 0)
    = true ∧ nextIs (exec (.peek1 3) (at_ .scan 0 [0xFF, 0xD8, 0x08])) (fun t => t.fsm == .error && t.err == .readOor)
    = true := by decide
/-- C4, C5, C6. -/
theorem test_peek2 : (at_ .scan 0 [0xFF, 0xC0, 0x00]).peek2 0 = 0xFFC0 ∧ (at_ .scan 0 [0xFF, 0xC0, 0x00]).peek2 1 = 0 ∧
    (at_ .scan 0 [0xFF, 0xD8]).peek2 0 = 0 := by decide
theorem test_exec_peek2 : nextIs (exec (.peek2 0) (at_ .scan 0 [0xFF, 0xC0, 0x00])) (fun t => t.ret == .half 0xFFC0) = true :=
  by decide
/-- C8, C9. -/
theorem test_read1 : nextIs (exec .read1 (at_ .dTq 14 pr1)) (fun t => t.ret == .byte 0x00 && t.pos == 15) = true ∧
    nextIs (exec .read1 (at_ .dTq 15 pr1)) (fun t => t.fsm == .error && t.pos == 15) = true := by decide
/-- C10, C11, C12. -/
theorem test_read2 : nextIs (exec .read2 (at_ .dX 13 pr1)) (fun t => t.ret == .half 0 && t.pos == 15) = true ∧
    nextIs (exec .read2 (at_ .dY 7 pr3)) (fun t => t.ret == .half 0 && t.pos == 9) = true ∧
    nextIs (exec .read2 (at_ .dX 9 pr1)) (fun t => t.ret == .half 0x0140 && t.pos == 11) = true := by decide
/-- C13. -/
theorem test_advance : nextIs (exec .advance (at_ .scan 15 pr1)) (fun t => t.pos == 16) = true := by decide
/-- C14, C15, C16. -/
theorem test_hasNext : (at_ .scan 14 pr1).hasNext = true ∧ (at_ .scan 15 pr1).hasNext = true ∧
    (at_ .scan 16 pr1).hasNext = false ∧ (atLt .scan 14 pr1).hasNext = true ∧ (atLt .scan 15 pr1).hasNext = false ∧
    (atLt .scan 16 pr1).hasNext = false := by decide
/-- 93_implementation_defined.md entry 2. -/
theorem test_hasNext_at_zero : exec .hasNext (at_ .scan 0 pr1) = .refused .hasNextAtPositionZero := rfl
/-- C17, C18. -/
theorem test_hasLookahead : (at_ .scan 10 []).hasLookahead = true ∧ (at_ .scan 11 []).hasLookahead = false ∧
    (at_ .scan 24 pr1).hasLookahead = true ∧ (at_ .scan 25 pr1).hasLookahead = false := by decide

/-! ## The scanner -/

/-- R122 example, run as a SCAN step. -/
theorem test_filler : nextIs (exec (.filler 0xD8FF) (at_ .scan 5 pr1)) (fun t => t.pos == 6 && t.fsm == .scan) = true := by
  decide
theorem test_fillerFfff : nextIs (exec .fillerFfff (at_ .scan 3 pr1)) (fun t => t.pos == 4 && t.fsm == .scan) = true := by
  decide
theorem test_otherMarker : nextIs (exec (.otherMarker 0xFFDB) (at_ .scan 2 pr1)) (fun t => t.pos == 3) = true := by decide
/-- R124 example. -/
theorem test_sof0 : nextIs (exec .scan (at_ .scan 2 pr1)) (fun t => t.fsm == .dMark && t.pos == 2) = true := by decide
/-- S4: fill bytes before SOF3. -/
theorem test_sof3 : nextIs (exec .scan (at_ .scan 4 [0xFF, 0xD8, 0xFF, 0xFF, 0xFF, 0xC3, 0x00]))
    (fun t => t.fsm == .dMark && t.pos == 4) = true ∧
    nextIs (exec .scan (at_ .scan 3 [0xFF, 0xD8, 0xFF, 0xFF, 0xFF, 0xC3, 0x00])) (fun t => t.fsm == .scan && t.pos == 4) = true :=
  by decide
/-- S1: SOF0 in the last two bytes is not seen; W7: the two settings of the guard at `POS = L`. -/
theorem test_scan_end : nextIs (exec .scan (at_ .scan 3 [0xFF, 0xD8, 0x00, 0xFF, 0xC0])) (fun t => t.pos == 4) = true ∧
    nextIs (exec .scan (at_ .scan 2 [0xFF, 0xD8])) (fun t => t.fsm == .scan && t.pos == 3) = true ∧
    nextIs (exec .scan (atLt .scan 2 [0xFF, 0xD8])) (fun t => t.fsm == .done && t.pos == 2) = true := by decide

/-! ## The frame header decoder (examples of R141-R149; 95 2.3) -/

/-- F1, F2. -/
theorem test_dMark : nextIs (exec .dMark (at_ .dMark 2 pr1)) (fun t =>
      t.kind == .lossy && t.out == [.frameBegin 0xFFC0 .lossy] && t.pos == 4 && t.fsm == .dLf) = true ∧
    nextIs (exec .dMark (at_ .dMark 0 [0xFF, 0xC3, 0x00])) (fun t => t.out == [.frameBegin 0xFFC3 .lossless]) = true := by
  decide
/-- F3: a marker that never reaches the decoder in a run. -/
theorem test_dMark_forced : nextIs (exec .dMark (at_ .dMark 0 pr1)) (fun t => t.kind == .unimpl && t.fsm == .dLf) = true := by
  decide
theorem test_dLf : nextIs (exec .dLf (at_ .dLf 4 pr1)) (fun t =>
    t.lf == 17 && t.out == [.field .lf 0 16 17] && t.pos == 6 && t.fsm == .dP) = true := by decide
/-- F5; F13 with r = 4. -/
theorem test_dP : nextIs (exec .dP (at_ .dP 1 [0x00, 0xFF])) (fun t => t.p == 255 && t.out == [.field .p 0 8 255]) = true ∧
    nextIs (exec .dP (at_ .dP 6 [0xFF, 0xD8, 0xFF, 0xC0, 0x00, 0x11])) (fun t =>
      t.fsm == .error && t.err == .readOor && t.pos == 6 && t.out == []) = true := by decide
theorem test_dY : nextIs (exec .dY (at_ .dY 7 pr1)) (fun t =>
    t.y == 256 && t.out == [.field .y 0 16 256] && t.pos == 9 && t.fsm == .dX) = true := by decide
theorem test_dX : nextIs (exec .dX (at_ .dX 9 pr1)) (fun t =>
    t.x == 320 && t.out == [.field .x 0 16 320] && t.pos == 11 && t.fsm == .dNf) = true := by decide
/-- R146 example; F8. -/
theorem test_dNf : nextIs (exec .dNf (at_ .dNf 11 pr1)) (fun t =>
      t.nf == 1 && t.k == 0 && t.out == [.field .nf 0 8 1] && t.fsm == .dCi) = true ∧
    nextIs (exec .dNf (at_ .dNf 0 [0x00])) (fun t => t.fsm == .scan && t.pos == 1) = true := by decide
theorem test_dCi : nextIs (exec .dCi { at_ .dCi 12 pr1 with k := 7 }) (fun t =>
    t.ci == 1 && t.out == [.field .ci 7 8 1] && t.pos == 13 && t.fsm == .dHv) = true := by decide
/-- F9. -/
theorem test_dHv : nextIs (exec .dHv (at_ .dHv 0 [0xF1])) (fun t =>
    t.hi == 15 && t.vi == 1 && t.out == [.field .hi 0 4 15, .field .vi 0 4 1] && t.fsm == .dTq) = true := by decide
/-- R149 example; F10, with another component to come. -/
theorem test_dTq : nextIs (exec .dTq { at_ .dTq 14 pr1 with nf := 1 }) (fun t =>
      t.tq == 0 && t.k == 0 && t.pos == 15 && t.fsm == .scan) = true ∧
    nextIs (exec .dTq { at_ .dTq 0 [0xFF] with nf := 255, k := 253 }) (fun t =>
      t.out == [.field .tqi 253 8 255] && t.k == 254 && t.fsm == .dCi) = true := by decide

/-! ## Start and SOI (95 2.4) -/

/-- G1, G2. -/
theorem test_start : nextIs (step { State.reset with pins := [pulse 15] }) (fun t =>
      t.len == 15 && t.pos == 0 && t.fsm == .soi && t.pins == []) = true ∧
    nextIs (exec (.start 15) (at_ .scan 2 pr1)) (fun t => t == at_ .scan 2 pr1) = true := by decide
/-- G3. -/
theorem test_start_after_error : nextIs (exec (.start 2) { at_ .error 0 pr1 with err := .invalidSoi }) (fun t =>
    t.err == .none && t.fsm == .soi) = true := by decide
/-- G4, G5, G6. -/
theorem test_soi : nextIs (exec .soi (at_ .soi 0 [0xFF])) (fun t => t.fsm == .error && t.err == .invalidSoi) = true ∧
    nextIs (exec .soi (at_ .soi 0 [0xFF, 0xD8])) (fun t => t.fsm == .scan && t.pos == 2) = true ∧
    nextIs (exec .soi (at_ .soi 0 [0xD8, 0xFF, 0x00])) (fun t => t.err == .invalidSoi && t.pos == 0) = true := by decide

/-! ## Step, pins and ports -/

/-- R81: a frame record and a field record on the port. -/
theorem test_record_words : (Record.frameBegin 0xFFC0 .lossy).toBits = 0x01000000FFC0 ∧
    (Record.field .hi 2 4 15).toBits = 0x16020400000F ∧ Record.ofBits 0x200000000000 = none := by decide
/-- R230: reset wins over start, and keeps the buffer. -/
theorem test_reset_pulse : nextIs (step { at_ .dY 7 pr1 with pins := [resetPulse], y := 3 }) (fun t =>
    t.fsm == .idle && t.pos == 0 && t.y == 0 && t.buf == (at_ .dY 7 pr1).buf) = true := by decide
/-- R233: an unanswered read and an untaken record hold the block; a step that reads and emits nothing does not notice. -/
theorem test_hold : nextIs (step { at_ .dY 7 pr1 with pins := [deaf] }) (fun t => t == at_ .dY 7 pr1) = true ∧
    nextIs (step { at_ .dY 7 pr1 with pins := [full] }) (fun t => t == at_ .dY 7 pr1) = true ∧
    nextIs (step { at_ .scan 15 pr1 with pins := [deaf] }) (fun t => t.pos == 16) = true := by decide
/-- R9: an idle machine waits. -/
theorem test_idle_waits : nextIs (step State.reset) (fun t => t == State.reset) = true := by decide
/-- A placed marker word runs at the next step: SOF0 dispatches, a FILLER word is skipped. -/
theorem test_place_marker : nextIs (step (State.reset.withFetchWord 16 0xFFC0)) (fun t => t.fsm == .dMark && t.pos == 2) = true
    ∧ nextIs (step (State.reset.withFetchWord 16 0xD8FF)) (fun t => t.fsm == .scan && t.pos == 3) = true := by decide
/-- A placed state code runs at the next step: D_NF with an empty buffer faults. -/
theorem test_place_state : nextIs (step (State.reset.withFetchWord 8 0x8)) (fun t => t.err == .readOor) = true := by decide

/-! ## Witnesses: concrete states and operands that meet the hypotheses of the statements, at the boundaries of their ranges -/

theorem witness_EncodedOperationDecodesBack :
    (Instr.filler 0xFF01).wellFormed .default = true ∧ encode (.filler 0xFF01) = some (.markerWord 0xFF01) ∧
    (Instr.start 4294967295).wellFormed .default = true ∧ encode (.start 4294967295) = some (.command true 4294967295) ∧
    Instr.dTq.wellFormed .default = true ∧ encode .dTq = some (.fsmState 11) := by decide
theorem witness_DecodedOperationEncodesBack :
    decode (.markerWord 0xFFFE) = .ok (.otherMarker 0xFFFE) ∧ decode (.fsmState 1) = .ok .soi ∧
    decode (.command true 3) = .ok (.start 3) ∧ 3 < 2 ^ Config.default.lenW := by decide
theorem witness_MaskRowsMatchTheClasses :
    (0xFF80#16, 0xFFC0#16) ∈ maskRows .otherMarker ∧ 0xFFBF#16 &&& 0xFFC0#16 = 0xFF80#16 := by decide
theorem witness_RecordWordsReadBack : 2 ≤ ((0x200000000000 : BitVec 48).extractLsb' 44 4).toNat ∧
    ((0x190000000000 : BitVec 48).extractLsb' 44 4).toNat = 1 ∧ 9 ≤ ((0x190000000000 : BitVec 48).extractLsb' 40 4).toNat := by
  decide
theorem witness_StatusOutputsShowTheState : ({ State.reset with pos := 8589934591 } : State).pos < 2 ^ State.reset.cfg.posW := by
  decide
theorem witness_LoadedFileReadsBack : 14 < pr1.length := by decide
theorem witness_BufferIsNeverWritten : (∃ t, exec .dP (at_ .dP 6 pr1) = .next t) ∧ ∃ t, step (at_ .dP 6 pr1) = .next t :=
  ⟨⟨_, rfl⟩, ⟨_, rfl⟩⟩
theorem witness_MemoryRequestsStayInside : 13 ∈ (at_ .dMark 12 pr1).memReads .dMark ∧ 14 ∈ (at_ .dTq 14 pr1).memReads .dTq ∧
    1 ∈ (at_ .soi 0 [0xFF, 0xD8]).memReads .soi := by decide
theorem witness_OnlyRequestedBytesMatter : ∀ a : Nat, a ∈ (at_ .dP 6 pr1).memReads .dP →
    Mem.read [(6, 0x08)] a = Mem.read (at_ .dP 6 pr1).buf a := by decide
theorem witness_Peek1ReturnsTheByteOrFaults : 14 < (at_ .scan 2 pr1).len ∧ (at_ .scan 2 pr1).len ≤ 15 := by decide
theorem witness_Peek2ReturnsTheHalf : 12 + 2 < (at_ .scan 2 pr1).len ∧ (at_ .scan 2 pr1).len ≤ 13 + 2 := by decide
theorem witness_Read1AdvancesByOne :
    (at_ .dP 14 pr1).pos < (at_ .dP 14 pr1).len ∧ (at_ .dP 15 pr1).len ≤ (at_ .dP 15 pr1).pos := by decide
theorem witness_Read2AdvancesByTwo : (at_ .dY 12 pr1).pos + 2 < (at_ .dY 12 pr1).len ∧
    (at_ .dY 13 pr1).len ≤ (at_ .dY 13 pr1).pos + 2 := by decide
theorem witness_HasNextComparesPosition : (at_ .scan 1 pr1).pos ≠ 0 := by decide
theorem witness_HasNextAtZeroIsRefused : (at_ .scan 0 pr1).pos = 0 := by decide
theorem witness_ScanStepFollowsTheBytes_ends :
    (at_ .scan 16 pr1).pos ≠ 0 ∧ ¬ (at_ .scan 16 pr1).GuardHolds ∧ ¬ (atLt .scan 15 pr1).GuardHolds := by
  simp [State.GuardHolds, at_, atLt, State.reset, State.resetOf, Config.default, State.loadFile, pr1]
theorem witness_ScanStepFollowsTheBytes_enters : (at_ .scan 2 pr1).pos ≠ 0 ∧
    (at_ .scan 2 pr1).GuardHolds ∧ (at_ .scan 2 pr1).SeesMarker 0xC0#8 :=
  ⟨by decide, .inl (by decide), by decide, by decide, by decide⟩
theorem witness_ScanStepFollowsTheBytes_enters_last : (at_ .scan 2 [0xFF, 0xD8, 0xFF, 0xC3, 0x00]).pos ≠ 0 ∧
    (at_ .scan 2 [0xFF, 0xD8, 0xFF, 0xC3, 0x00]).GuardHolds ∧
    (at_ .scan 2 [0xFF, 0xD8, 0xFF, 0xC3, 0x00]).SeesMarker 0xC3#8 :=
  ⟨by decide, .inl (by decide), by decide, by decide, by decide⟩
theorem witness_ScanStepFollowsTheBytes_skips : (at_ .scan 15 pr1).pos ≠ 0 ∧ (at_ .scan 15 pr1).GuardHolds ∧
    ¬ ((at_ .scan 15 pr1).SeesMarker 0xC0#8 ∨ (at_ .scan 15 pr1).SeesMarker 0xC3#8) := by
  simp [State.GuardHolds, State.SeesMarker, at_, State.reset, State.resetOf, Config.default, State.loadFile, pr1]
theorem witness_ScanStepNeitherFaultsNorEmits : (∃ t, exec .scan (at_ .scan 2 pr1) = .next t) ∧
    (at_ .scan 13 pr1).len ≤ (at_ .scan 13 pr1).pos + 2 := ⟨⟨_, rfl⟩, by decide⟩
theorem witness_MarkStepEmitsTheFrameRecord :
    (at_ .dMark 2 pr1).HalfAt 2 0xFFC0#16 ∧ (at_ .dMark 0 [0xFF, 0xC3, 0x00]).HalfAt 0 0xFFC3#16 ∧
    (at_ .dMark 0 pr1).HalfAt 0 0xFFD8#16 := ⟨⟨by decide, by decide⟩, ⟨by decide, by decide⟩, ⟨by decide, by decide⟩⟩
theorem witness_NfStepStartsTheLoop : (Mem.read (at_ .dNf 0 [0x00]).buf 0).toNat = 0 ∧ 0 < (at_ .dNf 0 [0x00]).len ∧
    (Mem.read (at_ .dNf 11 pr1).buf 11).toNat ≠ 0 ∧ (at_ .dNf 15 pr1).len ≤ (at_ .dNf 15 pr1).pos := by decide
theorem witness_PStepRecordsThePrecision : (at_ .dP 14 pr1).pos < (at_ .dP 14 pr1).len ∧
    (at_ .dP 15 pr1).len ≤ (at_ .dP 15 pr1).pos := by decide
theorem witness_CiStepRecordsTheIdentifier : (at_ .dCi 14 pr1).pos < (at_ .dCi 14 pr1).len ∧
    (at_ .dCi 15 pr1).len ≤ (at_ .dCi 15 pr1).pos := by decide
theorem witness_HvStepSplitsTheByte : (at_ .dHv 13 pr1).pos < (at_ .dHv 13 pr1).len ∧
    (at_ .dHv 15 pr1).len ≤ (at_ .dHv 15 pr1).pos := by decide
theorem witness_TqStepLoopsOrReturns :
    (at_ .dTq 14 pr1).pos < (at_ .dTq 14 pr1).len ∧ (at_ .dTq 15 pr1).len ≤ (at_ .dTq 15 pr1).pos ∧
    ({ at_ .dTq 14 pr1 with nf := 255, k := 254 } : State).k.toNat + 1 =
      ({ at_ .dTq 14 pr1 with nf := 255, k := 254 } : State).nf.toNat ∧
    ({ at_ .dTq 14 pr1 with nf := 255, k := 253 } : State).k.toNat + 1 ≠
      ({ at_ .dTq 14 pr1 with nf := 255, k := 253 } : State).nf.toNat := by decide
theorem witness_CompleteHeaderDecodes : (at_ .dMark 2 pr1).fsm = .dMark ∧ (at_ .dMark 2 pr1).pins = [] ∧
    (at_ .dMark 2 pr1).pos + segLength (at_ .dMark 2 pr1).buf 2 ≤ (at_ .dMark 2 pr1).len := by decide
theorem witness_TruncatedHeaderFaults_short : (at_ .dMark 2 pr3).fsm = .dMark ∧ (at_ .dMark 2 pr3).pins = [] ∧
    (at_ .dMark 2 pr3).len = (at_ .dMark 2 pr3).pos + 6 ∧ (at_ .dMark 2 (pr3.take 5)).len = (at_ .dMark 2 (pr3.take 5)).pos + 3 := by
  decide
theorem witness_TruncatedHeaderFaults_long : (at_ .dMark 2 (pr1.take 14)).fsm = .dMark ∧
    (at_ .dMark 2 (pr1.take 14)).pins = [] ∧ (at_ .dMark 2 (pr1.take 14)).len = (at_ .dMark 2 (pr1.take 14)).pos + 12 ∧
    12 < segLength (at_ .dMark 2 (pr1.take 14)).buf 2 := by decide
theorem witness_LossyAndLosslessDecodeAlike : (at_ .dMark 2 pr1).fsm = .dMark ∧ (at_ .dMark 2 pr1).pins = [] ∧
    Mem.wf (at_ .dMark 2 pr1).buf = true ∧ (at_ .dMark 2 pr1).SeesMarker 0xC0#8 :=
  ⟨by decide, by decide, by decide, by decide, by decide, by decide⟩
theorem witness_LatchesAreNeverRead :
    SameControl (at_ .dP 6 pr1) { at_ .dP 6 pr1 with lf := 9, kind := .lossless, out := [.frameBegin 0xFFC3 .lossless] } ∧
    ∃ t, exec .dP (at_ .dP 6 pr1) = .next t := ⟨⟨rfl, rfl, rfl, rfl, rfl, rfl, rfl, rfl⟩, ⟨_, rfl⟩⟩
theorem witness_LatchesAreNeverRead_start :
    SameControl (at_ .done 16 pr1) { at_ .done 16 pr1 with tq := 9, kind := .lossy, out := [.frameBegin 0xFFC0 .lossy] } ∧
    ∃ t, exec (.start 15) (at_ .done 16 pr1) = .next t := ⟨⟨rfl, rfl, rfl, rfl, rfl, rfl, rfl, rfl⟩, ⟨_, rfl⟩⟩
theorem witness_StartBeginsARunWhenIdle : (at_ .done 16 pr1).fsm = .done ∧ (at_ .dTq 14 pr1).fsm ≠ .idle ∧
    (at_ .dTq 14 pr1).fsm ≠ .done ∧ (at_ .dTq 14 pr1).fsm ≠ .error := by decide
theorem witness_StartPulseRunsTheCommand : State.reset.fsm = .idle ∧
    ({ State.reset with pins := [pulse 15] } : State).pinsNow.start = true ∧
    ({ State.reset with pins := [pulse 15] } : State).pinsNow.rst = false ∧ State.reset.pinsNow.start = false := by decide
theorem witness_SoiGateChecksTwoBytes :
    (2 ≤ (at_ .soi 0 [0xFF, 0xD8]).len ∧ Mem.read (at_ .soi 0 [0xFF, 0xD8]).buf 0 = 0xFF#8 ∧
      Mem.read (at_ .soi 0 [0xFF, 0xD8]).buf 1 = 0xD8#8) ∧ (at_ .soi 0 [0xFF]).len < 2 ∧
    Mem.read (at_ .soi 0 [0xFF, 0xD9]).buf 1 ≠ 0xD8#8 := by decide
theorem witness_FaultEntryIsPrecise :
    (∃ t, exec .soi (at_ .soi 0 []) = .next t ∧ (at_ .soi 0 []).err = .none ∧ t.err ≠ .none) ∧
    (∃ t, exec .dNf (at_ .dNf 11 pr3) = .next t ∧ (at_ .dNf 11 pr3).err = .none ∧ t.err ≠ .none) ∧
    (∃ t, exec (.peek1 0) (at_ .scan 2 []) = .next t ∧ (at_ .scan 2 []).err = .none ∧ t.err ≠ .none) :=
  ⟨⟨_, rfl, by decide, by decide⟩, ⟨_, rfl, by decide, by decide⟩, ⟨_, rfl, by decide, by decide⟩⟩
theorem witness_IdleStatesAreLeftOnlyByCommand : (at_ .error 0 pr1).fsm = .error ∧ (at_ .error 0 pr1).pinsNow.rst = false ∧
    (at_ .error 0 pr1).pinsNow.start = false ∧
    ({ at_ .error 0 pr1 with pins := [pulse 2] } : State).pinsNow.rst = false ∧
    ({ at_ .error 0 pr1 with pins := [pulse 2] } : State).pinsNow.start = true ∧
    ({ at_ .error 0 pr1 with pins := [resetPulse] } : State).pinsNow.rst = true := by decide
theorem witness_ResetAndStartValues : (at_ .error 0 pr1).fsm.isIdle = true ∧ ∃ t, exec (.start 2) (at_ .error 0 pr1) = .next t :=
  ⟨by decide, ⟨_, rfl⟩⟩
theorem witness_ResetSampleResetsEveryRegister : ({ at_ .dY 7 pr1 with pins := [resetPulse] } : State).pinsNow.rst = true := by
  decide
theorem witness_InvariantHoldsAtReset : Config.Ok { lenW := 2, hasNextBound := .lt } := by decide
/-- A state inside a decode that meets the invariant, with a step that goes on. -/
theorem witness_StepKeepsInvariant :
    ({ at_ .dTq 14 pr1 with nf := 1, kind := .lossy, out := [.frameBegin 0xFFC0 .lossy] } : State).Inv ∧
    ∃ t, step { at_ .dTq 14 pr1 with nf := 1, kind := .lossy, out := [.frameBegin 0xFFC0 .lossy] } = .next t :=
  ⟨⟨by decide, by decide, by decide, by decide, by decide, by decide, by decide, by decide⟩, ⟨_, rfl⟩⟩
/-- `POS` at its highest, `L + 4`, meets the invariant. -/
theorem witness_PositionNeverWraps :
    ({ at_ .dNf 11 (pr3.take 7) with kind := .lossy } : State).Inv ∧
    ({ at_ .dNf 11 (pr3.take 7) with kind := .lossy } : State).pos =
      ({ at_ .dNf 11 (pr3.take 7) with kind := .lossy } : State).len + 4 :=
  ⟨⟨by decide, by decide, by decide, by decide, by decide, by decide, by decide, by decide⟩, by decide⟩
theorem witness_StepAlwaysGoesOn : State.reset.Inv :=
  ⟨by decide, by decide, by decide, by decide, by decide, by decide, by decide, by decide⟩
theorem witness_LogOnlyGrows : (∃ t, exec .dHv (at_ .dHv 13 pr1) = .next t) ∧ ∀ n : Nat, Instr.dHv ≠ .start n :=
  ⟨⟨_, rfl⟩, by simp⟩
theorem witness_LengthAndParametersStay : (∃ t, exec .scan (at_ .scan 2 pr1) = .next t) ∧ (∀ n : Nat, Instr.scan ≠ .start n) ∧
    ∃ t, step (at_ .scan 2 pr1) = .next t := ⟨⟨_, rfl⟩, by simp, ⟨_, rfl⟩⟩
theorem witness_OperationsWriteOnlyTheirRegisters : (∃ t, exec .dTq (at_ .dTq 14 pr1) = .next t) ∧
    cursorOperation .dTq = false := ⟨⟨_, rfl⟩, rfl⟩
theorem witness_StepRunsTheDecodedOperation : (at_ .dLf 4 pr1).pinsNow.rst = false ∧
    decode (at_ .dLf 4 pr1).selector = .ok .dLf ∧ (at_ .dLf 4 pr1).stalled .dLf = false ∧
    ({ at_ .dLf 4 pr1 with pins := [full] } : State).stalled .dLf = true := by decide
theorem witness_BusyStatesSelectTheirStep : (at_ .soi 0 pr1).fsm = .soi ∧ (at_ .scan 2 pr1).fsm = .scan ∧
    (at_ .dMark 2 pr1).fsm = .dMark ∧ (at_ .dLf 4 pr1).fsm = .dLf ∧ (at_ .dP 6 pr1).fsm = .dP ∧
    (at_ .dY 7 pr1).fsm = .dY ∧ (at_ .dX 9 pr1).fsm = .dX ∧ (at_ .dNf 11 pr1).fsm = .dNf ∧
    (at_ .dCi 12 pr1).fsm = .dCi ∧ (at_ .dHv 13 pr1).fsm = .dHv ∧ (at_ .dTq 14 pr1).fsm = .dTq := by decide
theorem witness_UnansweredStepHolds : ({ at_ .dY 7 pr1 with pins := [deaf] } : State).pinsNow.memAck = false ∧
    ({ at_ .dY 7 pr1 with pins := [deaf] } : State).pinsNow.rst = false ∧
    ({ at_ .dY 7 pr1 with pins := [full] } : State).pinsNow.rst = false ∧
    ({ at_ .dY 7 pr1 with pins := [full] } : State).select = some .dY ∧
    ({ at_ .dY 7 pr1 with pins := [deaf] } : State).memReads .dY ≠ [] ∧
    ({ at_ .dY 7 pr1 with pins := [deaf] } : State).select = some .dY ∧
    ({ at_ .dY 7 pr1 with pins := [full] } : State).pinsNow.recReady = false ∧
    nextIs (exec .dY { at_ .dY 7 pr1 with pins := [full] }) (fun t => decide (0 < t.out.length)) = true := by decide
theorem witness_StartAndLengthIgnoredWhileBusy : (at_ .scan 2 pr1).busy = true := by decide
theorem witness_EveryRunEnds : (at_ .soi 0 pr1).fsm = .soi ∧ (at_ .soi 0 pr1).pos = 0 ∧ (at_ .soi 0 pr1).pins = [] ∧
    2 ≤ (at_ .soi 0 [0xFF, 0xD8]).len ∧ (at_ .soi 0 [0xFF]).len < 2 := by decide
theorem witness_LoopBoundDoesNotShowInTheRecords : (at_ .soi 0 pr1).fsm = .soi ∧ (at_ .soi 0 pr1).pos = 0 ∧
    (at_ .soi 0 pr1).err = .none ∧ (at_ .soi 0 pr1).pins = [] := by decide
theorem witness_BuiltFileDecodesToItsFields : Config.default.Ok ∧
    ((0xFFC3#16 = 0xFFC0#16 ∧ Kind.lossless = .lossy) ∨ (0xFFC3#16 = 0xFFC3#16 ∧ Kind.lossless = .lossless)) ∧
    (List.replicate 255 (Component.mk 1 1 1 0)).length ≤ 255 ∧
    12 + 3 * (List.replicate 255 (Component.mk 1 1 1 0)).length < 2 ^ Config.default.lenW :=
  ⟨by decide, .inr ⟨rfl, rfl⟩, by rw [List.length_replicate], by rw [List.length_replicate]; decide⟩

end Sys2Proof.Tests
end

section
/-! SUPPORT. What the operations without a field read can answer, once each. -/

namespace Sys2Proof.Machine

/-- START begins a run from an idle state and is ignored while busy (R180). -/
theorem execStart_cases {n : Nat} {s t : State} (h : execStart n s = .next t) :
    (s.fsm.isIdle = true ∧ t = s.beginRun n) ∨ (s.fsm.isIdle = false ∧ t = s) := by
  by_cases hs : s.fsm.isIdle = true
  · exact .inl ⟨hs, by simpa [execStart, hs] using h.symm⟩
  · exact .inr ⟨by simpa using hs, by simpa [execStart, hs] using h.symm⟩

/-- START in an idle state begins a run. -/
theorem exec_start_of_isIdle {n : Nat} {s t : State} (hs : s.fsm.isIdle = true) (h : exec (.start n) s = .next t) :
    t = s.beginRun n := by
  obtain ⟨-, ht⟩ | ⟨hbusy, -⟩ := execStart_cases h
  · exact ht
  · simp [hs] at hbusy

/-- The SOI gate enters the scan or takes the fault (R181). -/
theorem execSoi_cases {s t : State} (h : execSoi s = .next t) :
    (s.hasSoi = true ∧ t = (s.setPos 2).setFsm .scan) ∨ (s.hasSoi = false ∧ t = s.raise .invalidSoi) := by
  by_cases hs : s.hasSoi = true
  · exact .inl ⟨hs, by simpa [execSoi, hs] using h.symm⟩
  · exact .inr ⟨by simpa using hs, by simpa [execSoi, hs] using h.symm⟩

/-- A SCAN step that completes ends the loop, advances by one byte or enters the decoder (R121, R127). -/
theorem execScan_cases {s t : State} (h : execScan s = .next t) :
    s.pos ≠ 0 ∧ ((s.hasNext = false ∧ t = s.setFsm .done) ∨
      (s.hasNext = true ∧ s.peek2 s.pos ≠ 0xFFC0#16 ∧ s.peek2 s.pos ≠ 0xFFC3#16 ∧ t = s.advance) ∨
      (s.hasNext = true ∧ (s.peek2 s.pos = 0xFFC0#16 ∨ s.peek2 s.pos = 0xFFC3#16) ∧ t = s.setFsm .dMark)) := by
  by_cases hp : s.pos = 0
  · simp [execScan, State.hasNextDefined, hp] at h
  · refine ⟨hp, ?_⟩
    simp only [execScan, State.hasNextDefined, hp, ne_eq, not_false_eq_true, decide_true, if_true] at h
    by_cases hn : s.hasNext = true
    · rw [if_pos hn] at h
      obtain ⟨h0, h3, hb⟩ | ⟨hw, hb⟩ := scanBranch_cases (s.peek2 s.pos) s
      · exact .inr (.inl ⟨hn, h0, h3, by simpa [hb] using h.symm⟩)
      · exact .inr (.inr ⟨hn, hw, by simpa [hb] using h.symm⟩)
    · exact .inl ⟨by simpa using hn, by simpa [hn] using h.symm⟩

/-- PEEK1 hands back the byte or takes the fault (R100). -/
theorem execPeek1_cases {p : Nat} {s t : State} (h : execPeek1 p s = .next t) :
    (p < s.len ∧ t = s.giveBack (.byte (Mem.read s.buf p))) ∨ (s.len ≤ p ∧ t = s.raise .readOor) := by
  obtain hl | hl := Nat.lt_or_ge p s.len
  · exact .inl ⟨hl, by simpa [execPeek1, State.peek1_of_lt hl] using h.symm⟩
  · exact .inr ⟨hl, by simpa [execPeek1, State.peek1_of_ge hl] using h.symm⟩

/-- READ1 run on its own is a one-byte step that hands the byte back (R102). -/
theorem execRead1_eq_withRead1 (s : State) : execRead1 s = withRead1 s fun v t => t.giveBack (.byte v) := rfl

/-- HASNEXT answers outside `POS` = 0 (R105). -/
theorem execHasNext_cases {s t : State} (h : execHasNext s = .next t) :
    s.pos ≠ 0 ∧ t = s.giveBack (.truth s.hasNext) := by
  by_cases hp : s.pos = 0
  · simp [execHasNext, State.hasNextDefined, hp] at h
  · exact ⟨hp, by simpa [execHasNext, State.hasNextDefined, hp] using h.symm⟩

/-- The end of D_TQ emits nothing. -/
@[simp] theorem State.nextComponent_out (s : State) : s.nextComponent.out = s.out := by
  obtain ⟨-, hs⟩ | ⟨-, hs⟩ := s.nextComponent_cases <;> simp [hs]

end Sys2Proof.Machine
end

section
/-! The register values of R32, and the growth of the output log (R28). -/

namespace Sys2Proof.Machine

/-- Settles O43: an accepted START is `beginRun`, whose fields are known one by one. -/
theorem resetAndStartValues : Obligations.ResetAndStartValues := by
  unfold Obligations.ResetAndStartValues
  refine ⟨fun c => by simp [State.resetOf], fun s t n hidle h => ?_⟩
  obtain rfl := exec_start_of_isIdle hidle h
  simp

/-- The log of `t` is the log of `s` with at most two records appended. -/
def AppendsAtMostTwo (s t : State) : Prop :=
  ∃ rs : List Record, rs.length ≤ 2 ∧ t.out = s.out ++ rs

/-- Nothing is emitted. -/
theorem AppendsAtMostTwo.zero {s t : State} (h : t.out = s.out) : AppendsAtMostTwo s t :=
  ⟨[], by simp, by simpa using h⟩

/-- One record is emitted. -/
theorem AppendsAtMostTwo.one {s t : State} {r : Record} (h : t.out = s.out ++ [r]) : AppendsAtMostTwo s t :=
  ⟨[r], by simp, h⟩

/-- Two records are emitted. -/
theorem AppendsAtMostTwo.two {s t : State} {r q : Record} (h : t.out = s.out ++ [r, q]) : AppendsAtMostTwo s t :=
  ⟨[r, q], by simp, h⟩

/-- A one-byte step appends what it does with the byte appends; its fault emits nothing (R205). -/
theorem withRead1_appends {s t : State} {f : Byte → State → State} (h : withRead1 s f = .next t)
    (hf : ∀ v, AppendsAtMostTwo s (f v (s.setPos (s.pos + 1)))) : AppendsAtMostTwo s t := by
  obtain ⟨-, rfl⟩ | ⟨-, rfl⟩ := withRead1_cases h
  · exact hf _
  · exact .zero (by simp)

/-- R28: every operation but START only appends to the log, the most at D_HV (R148). -/
theorem exec_appends {i : Instr} {s t : State} (h : exec i s = .next t) (hi : ∀ n : Nat, i ≠ .start n) :
    AppendsAtMostTwo s t := by
  cases i with
  | start n => exact absurd rfl (hi n)
  | filler w | fillerFfff | sof0 | sof3 | otherMarker w | peek2 p | read2 | advance | hasLookahead =>
    cases h
    exact .zero (by simp)
  | soi =>
    obtain ⟨-, rfl⟩ | ⟨-, rfl⟩ := execSoi_cases h <;> exact .zero (by simp)
  | scan =>
    obtain ⟨-, ⟨-, rfl⟩ | ⟨-, -, -, rfl⟩ | ⟨-, -, rfl⟩⟩ := execScan_cases h <;> exact .zero (by simp)
  | peek1 p =>
    obtain ⟨-, rfl⟩ | ⟨-, rfl⟩ := execPeek1_cases h <;> exact .zero (by simp)
  | hasNext =>
    obtain ⟨-, rfl⟩ := execHasNext_cases h
    exact .zero (by simp)
  | read1 => exact withRead1_appends ((execRead1_eq_withRead1 s).symm.trans h) fun v => .zero (by simp)
  | dMark | dLf | dY | dX =>
    cases h
    exact .one rfl
  | dP | dNf | dCi => exact withRead1_appends h fun v => .one rfl
  | dTq => exact withRead1_appends h fun v => .one (State.nextComponent_out _)
  | dHv => exact withRead1_appends h fun v => .two (List.append_assoc ..)

/-- Settles O49, by the case split of `exec_appends` and, for START, the empty log of `beginRun`. -/
theorem logOnlyGrows : Obligations.LogOnlyGrows := by
  unfold Obligations.LogOnlyGrows
  refine ⟨fun i s t h hi => exec_appends h hi, fun s t n hidle h => ?_⟩
  obtain rfl := exec_start_of_isIdle hidle h
  exact State.beginRun_out s n

end Sys2Proof.Machine
end

section
/-! The mask and match rows of R72. -/

namespace Sys2Proof

/-- Keeping the bits from `k` up clears the low `k` bits. -/
theorem and_allOnes_shiftLeft {n : Nat} (w : BitVec n) (k : Nat) :
    w &&& BitVec.allOnes n <<< k = (w >>> k) <<< k := by
  ext i hi
  by_cases h : i < k
  · simp [h]
  · have hk : k + (i - k) = i := by omega
    simp [h, hk, BitVec.getLsbD_eq_getElem, hi]

/-- A row that tests the bits from `k` up selects the `2 ^ k` words from its match on. -/
theorem and_mask_eq_of_mem_block {w : Half} {a k : Nat} (hk : a % 2 ^ k = 0) (ha : a ≤ w.toNat)
    (hw : w.toNat < a + 2 ^ k) : w &&& BitVec.allOnes 16 <<< k = BitVec.ofNat 16 a := by
  obtain ⟨c, rfl⟩ := Nat.dvd_of_mod_eq_zero hk
  have hc : w.toNat / 2 ^ k = c :=
    Nat.div_eq_of_lt_le (by rwa [Nat.mul_comm]) (by rwa [Nat.succ_mul, Nat.mul_comm])
  apply BitVec.eq_of_toNat_eq
  rw [and_allOnes_shiftLeft, BitVec.toNat_shiftLeft, BitVec.toNat_ushiftRight, Nat.shiftRight_eq_div_pow, hc,
    Nat.shiftLeft_eq, Nat.mul_comm, BitVec.toNat_ofNat]

/-- The rows test high bits only, and the blocks of words they select follow one another from `a` up to `b`. -/
def tiles : Nat → List (Half × Half) → Nat → Bool
  | a, [], b => decide (a = b)
  | a, row :: rows, b => (List.range 16).any fun k =>
    decide (row = (BitVec.ofNat 16 a, BitVec.allOnes 16 <<< k) ∧ a % 2 ^ k = 0) && tiles (a + 2 ^ k) rows b

/-- Rows that tile an interval select each of its words. -/
theorem exists_row_of_tiles {rows : List (Half × Half)} {a b : Nat} {w : Half} (h : tiles a rows b = true)
    (ha : a ≤ w.toNat) (hb : w.toNat < b) : ∃ row ∈ rows, w &&& row.2 = row.1 := by
  induction rows generalizing a with
  | nil =>
    have hab : a = b := by simpa [tiles] using h
    omega
  | cons row rows ih =>
    simp only [tiles, List.any_eq_true, Bool.and_eq_true, decide_eq_true_eq] at h
    obtain ⟨k, -, ⟨rfl, hk⟩, hrest⟩ := h
    obtain hw | hw := Nat.lt_or_ge w.toNat (a + 2 ^ k)
    · exact ⟨_, List.mem_cons_self, and_mask_eq_of_mem_block hk ha hw⟩
    · obtain ⟨row, hrow, hsel⟩ := ih hrest hw
      exact ⟨row, List.mem_cons_of_mem _ hrow, hsel⟩

/-- R72 covers R71: a word is selected by a row of its class. The rows of OTHER_MARKER tile its range in three pieces,
around SOF0 and SOF3. -/
theorem exists_row_of_classify (w : Half) : ∃ row ∈ maskRows (classify w), w &&& row.2 = row.1 := by
  unfold classify
  split_ifs with hfill hffff hsof0 hsof3
  · exact exists_row_of_tiles (a := 0) (b := 0xFF02) (by decide) (by omega) (by omega)
  · exact ⟨_, List.mem_singleton_self _, by simp [hffff]⟩
  · exact ⟨_, List.mem_singleton_self _, by simp [hsof0]⟩
  · exact ⟨_, List.mem_singleton_self _, by simp [hsof3]⟩
  · have hrange : (0xFF02 ≤ w.toNat ∧ w.toNat < 0xFFC0) ∨ (0xFFC1 ≤ w.toNat ∧ w.toNat < 0xFFC3) ∨
        (0xFFC4 ≤ w.toNat ∧ w.toNat < 0xFFFF) := by bv_omega
    obtain ⟨hlo, hhi⟩ | ⟨hlo, hhi⟩ | ⟨hlo, hhi⟩ := hrange
    · obtain ⟨row, hrow, hsel⟩ :=
        exists_row_of_tiles (rows := (maskRows .otherMarker).take 7) (by decide) hlo hhi
      exact ⟨row, List.mem_of_mem_take hrow, hsel⟩
    · obtain ⟨row, hrow, hsel⟩ :=
        exists_row_of_tiles (rows := ((maskRows .otherMarker).drop 7).take 2) (by decide) hlo hhi
      exact ⟨row, List.mem_of_mem_drop (List.mem_of_mem_take hrow), hsel⟩
    · obtain ⟨row, hrow, hsel⟩ :=
        exists_row_of_tiles (rows := (maskRows .otherMarker).drop 9) (by decide) hlo hhi
      exact ⟨row, List.mem_of_mem_drop hrow, hsel⟩

/-- Two rows that select one word have matches that agree on the bits both rows test. -/
theorem match_and_mask_comm {w : Half} {row row' : Half × Half} (h : w &&& row.2 = row.1)
    (h' : w &&& row'.2 = row'.1) : row.1 &&& row'.2 = row'.1 &&& row.2 := by
  rw [← h, ← h', BitVec.and_assoc, BitVec.and_assoc, BitVec.and_comm row.2]

/-- Any two rows of R72 differ on a bit that both test. -/
theorem maskRows_differ (q q' : MarkerClass) : ((maskRows q).all fun row => (maskRows q').all fun row' =>
    decide (row.1 &&& row'.2 = row'.1 &&& row.2 → q = q' ∧ row = row')) = true := by
  cases q <;> cases q' <;> decide

/-- R72: a word is selected by one row at most, over all classes. -/
theorem maskRows_disjoint {w : Half} {q q' : MarkerClass} {row row' : Half × Half} (hrow : row ∈ maskRows q)
    (hrow' : row' ∈ maskRows q') (h : w &&& row.2 = row.1) (h' : w &&& row'.2 = row'.1) : q = q' ∧ row = row' := by
  have hall := List.all_eq_true.mp (List.all_eq_true.mp (maskRows_differ q q') row hrow) row' hrow'
  exact of_decide_eq_true hall (match_and_mask_comm h h')

/-- R71: the range of FILLER. -/
theorem classify_eq_filler_iff (w : Half) : classify w = .filler ↔ w.toNat ≤ 0xFF01 := by
  unfold classify
  split_ifs with hfill <;> simp [hfill]

/-- Settles O5: a class's rows cover it (`exists_row_of_classify`), and no word has rows of two classes
(`maskRows_disjoint`). -/
theorem maskRowsMatchTheClasses : Obligations.MaskRowsMatchTheClasses := by
  unfold Obligations.MaskRowsMatchTheClasses
  refine ⟨fun w q => ⟨?_, ?_⟩, fun w q q' row row' => maskRows_disjoint, fun w => ?_⟩
  · rintro rfl
    exact exists_row_of_classify w
  · rintro ⟨row, hrow, hsel⟩
    obtain ⟨row', hrow', hsel'⟩ := exists_row_of_classify w
    exact (maskRows_disjoint hrow' hrow hsel' hsel).1
  · have hw := w.isLt
    rw [classify_eq_filler_iff]
    omega

end Sys2Proof
end

section
/-! The 48 bits of a record (R81). -/

namespace Sys2Proof.Machine

/-- The groups of a word of five, each read off above the groups after it. -/
theorem extractLsb'_of_five_groups {a b c d e : Nat} (u : BitVec a) (v : BitVec b) (w : BitVec c) (x : BitVec d)
    (y : BitVec e) :
    let r := u ++ v ++ w ++ x ++ y
    r.extractLsb' (b + c + d + e) a = u ∧ r.extractLsb' (c + d + e) b = v ∧ r.extractLsb' (d + e) c = w ∧
      r.extractLsb' e d = x ∧ r.extractLsb' 0 e = y := by
  simp (disch := omega) [BitVec.extractLsb'_append_eq_of_le, BitVec.extractLsb'_append_eq_of_add_le]

/-- The groups of a word of six, likewise. -/
theorem extractLsb'_of_six_groups {a b c d e f : Nat} (u : BitVec a) (v : BitVec b) (w : BitVec c) (x : BitVec d)
    (y : BitVec e) (z : BitVec f) :
    let r := u ++ v ++ w ++ x ++ y ++ z
    r.extractLsb' (b + c + d + e + f) a = u ∧ r.extractLsb' (c + d + e + f) b = v ∧
      r.extractLsb' (d + e + f) c = w ∧ r.extractLsb' (e + f) d = x ∧ r.extractLsb' f e = y ∧
      r.extractLsb' 0 f = z := by
  simp (disch := omega) [BitVec.extractLsb'_append_eq_of_le, BitVec.extractLsb'_append_eq_of_add_le]

/-- R80: the nine fields have the identifiers up to 8 and a width of 16, 8 or 4. -/
theorem FieldName.id_le_and_width (f : FieldName) :
    f.id.toNat ≤ 8 ∧ (f.width.toNat = 16 ∨ f.width.toNat = 8 ∨ f.width.toNat = 4) := by
  cases f <;> decide

/-- Settles O6: a frame record is a word of five groups, a field record one of six, and the numbers are those of the
tables of R26 and R80. -/
theorem recordWordLayout : Obligations.RecordWordLayout := by
  unfold Obligations.RecordWordLayout
  refine ⟨fun mk kd => ?_, fun f j wd v => ?_, FieldName.id_le_and_width, by decide, by decide, by decide⟩
  · exact extractLsb'_of_five_groups 0#4 0#2 kd.code 0#24 mk
  · exact extractLsb'_of_six_groups 1#4 f.id j wd 0#8 v

end Sys2Proof.Machine
end

section
/-! The advance of the cursor (R104). -/

namespace Sys2Proof.Machine

/-- R104: the advanced state differs in `POS` alone. -/
theorem State.advance_eq (s : State) : s.advance = { s with pos := s.pos + 1 } := rfl

/-- ADVANCE run on its own completes in every state, at any `POS`. -/
theorem exec_advance (s : State) : exec .advance s = .next s.advance := rfl

/-- Settles O17: ADVANCE answers the advanced state (`exec_advance`), in which `POS` alone is new
(`State.advance_eq`). -/
theorem advanceAddsOne : Obligations.AdvanceAddsOne := by
  unfold Obligations.AdvanceAddsOne
  intro s
  rw [exec_advance, State.advance_eq]

end Sys2Proof.Machine
end

section
/-! The SCAN step and the marker word classes (R121-R129). -/

namespace Sys2Proof

/-- R71: a word of the range of FILLER selects FILLER, with itself as the operand. -/
theorem decodeMarker_of_le {w : Half} (h : w.toNat ≤ 0xFF01) : decodeMarker w = .filler w := by
  simp [decodeMarker, (classify_eq_filler_iff w).mpr h]

end Sys2Proof

namespace Sys2Proof.Machine

/-- The state with another `STATE` differs in `STATE` alone. -/
theorem State.setFsm_eq (s : State) (f : Fsm) : s.setFsm f = { s with fsm := f } := rfl

/-- R129: a SCAN step that completes emits nothing and leaves `ERR` as it is. -/
theorem execScan_keeps_out_err {s t : State} (h : execScan s = .next t) : t.out = s.out ∧ t.err = s.err := by
  obtain ⟨-, ⟨-, rfl⟩ | ⟨-, -, -, rfl⟩ | ⟨-, -, rfl⟩⟩ := execScan_cases h <;> simp

/-- R121, R127: a SCAN step that completes keeps `STATE`, ends the run or enters the decoder. -/
theorem execScan_fsm {s t : State} (h : execScan s = .next t) :
    t.fsm = s.fsm ∨ t.fsm = .done ∨ t.fsm = .dMark := by
  obtain ⟨-, ⟨-, rfl⟩ | ⟨-, -, -, rfl⟩ | ⟨-, -, rfl⟩⟩ := execScan_cases h
  · exact .inr (.inl (s.setFsm_fsm .done))
  · exact .inl s.advance_fsm
  · exact .inr (.inr (s.setFsm_fsm .dMark))

/-- Settles O24: the step writes neither `OUT` nor `ERR` (`execScan_keeps_out_err`), none of the values it gives `STATE`
is ERROR (`execScan_fsm`), and PEEK2 past its bound answers 0, a word of FILLER. -/
theorem scanStepNeitherFaultsNorEmits : Obligations.ScanStepNeitherFaultsNorEmits := by
  unfold Obligations.ScanStepNeitherFaultsNorEmits
  refine ⟨fun s t h => ?_, fun s hl => ?_⟩
  · obtain ⟨hout, herr⟩ := execScan_keeps_out_err h
    refine ⟨hout, herr, fun hbad => ?_⟩
    obtain hkept | hdone | hmark := execScan_fsm h
    · exact hkept ▸ hbad
    · simp [hdone] at hbad
    · simp [hmark] at hbad
  · rw [State.peek2_of_ge hl]
    exact ⟨rfl, decodeMarker_of_le (by decide)⟩

/-- FILLER advances the cursor (R122). -/
theorem exec_filler (w : Half) (s : State) : exec (.filler w) s = .next s.advance := rfl

/-- FILLER_FFFF advances the cursor (R123). -/
theorem exec_fillerFfff (s : State) : exec .fillerFfff s = .next s.advance := rfl

/-- OTHER_MARKER advances the cursor (R126). -/
theorem exec_otherMarker (w : Half) (s : State) : exec (.otherMarker w) s = .next s.advance := rfl

/-- SOF0 enters the decoder (R124). -/
theorem exec_sof0 (s : State) : exec .sof0 s = .next (s.setFsm .dMark) := rfl

/-- SOF3 enters the decoder (R125). -/
theorem exec_sof3 (s : State) : exec .sof3 s = .next (s.setFsm .dMark) := rfl

/-- Settles O21: the three classes answer the advanced state, in which `POS` alone is new (`State.advance_eq`). -/
theorem skippedClassesAdvanceOneByte : Obligations.SkippedClassesAdvanceOneByte := by
  unfold Obligations.SkippedClassesAdvanceOneByte
  intro s w
  rw [exec_filler, exec_fillerFfff, exec_otherMarker, State.advance_eq]
  exact ⟨rfl, rfl, rfl⟩

/-- Settles O22: both classes answer the state with `STATE` = D_MARK, which differs in `STATE` alone
(`State.setFsm_eq`). -/
theorem frameMarkersEnterTheDecoder : Obligations.FrameMarkersEnterTheDecoder := by
  unfold Obligations.FrameMarkersEnterTheDecoder
  intro s
  rw [exec_sof0, exec_sof3, State.setFsm_eq]
  exact ⟨rfl, rfl⟩

end Sys2Proof.Machine
end

section
/-! The steps of the frame header decoder (R141-R149), each as the fields it writes. -/

namespace Sys2Proof.Machine

/-- A 16-bit value is recorded as it is. -/
theorem fieldRecord_half (name : FieldName) (index : Byte) (v : Half) :
    fieldRecord name index v = .field name index name.width v := by
  rw [fieldRecord, BitVec.setWidth_eq]

/-- D_MARK completes in every state (R141). -/
theorem exec_dMark (s : State) : exec .dMark s = .next { s with
    pos := s.pos + 2
    kind := kindOf (s.peek2 s.pos)
    out := s.out ++ [.frameBegin (s.peek2 s.pos) (kindOf (s.peek2 s.pos))]
    fsm := .dLf } := rfl

/-- D_LF completes in every state (R142). -/
theorem exec_dLf (s : State) : exec .dLf s = .next { s with
    pos := s.pos + 2
    lf := s.peek2 s.pos
    out := s.out ++ [fieldRecord .lf 0#8 (s.peek2 s.pos)]
    fsm := .dP } := rfl

/-- D_Y completes in every state (R144). -/
theorem exec_dY (s : State) : exec .dY s = .next { s with
    pos := s.pos + 2
    y := s.peek2 s.pos
    out := s.out ++ [fieldRecord .y 0#8 (s.peek2 s.pos)]
    fsm := .dX } := rfl

/-- D_X completes in every state (R145). -/
theorem exec_dX (s : State) : exec .dX s = .next { s with
    pos := s.pos + 2
    x := s.peek2 s.pos
    out := s.out ++ [fieldRecord .x 0#8 (s.peek2 s.pos)]
    fsm := .dNf } := rfl

/-- Two records emitted one after the other. -/
theorem State.emit_emit (s : State) (r q : Record) : (s.emit r).emit q = { s with out := s.out ++ [r, q] } := by
  rw [State.emit, State.emit, List.append_assoc, List.singleton_append]

section OneByte

variable {s : State} (h : s.pos < s.len)
include h

/-- D_P inside the buffer (R143). -/
theorem exec_dP_of_lt : exec .dP s = .next { s with
    pos := s.pos + 1
    p := Mem.read s.buf s.pos
    out := s.out ++ [fieldRecord .p 0#8 (Mem.read s.buf s.pos)]
    fsm := .dY } := withRead1_of_lt _ h

/-- D_NF inside the buffer (R146). -/
theorem exec_dNf_of_lt : exec .dNf s = .next { s with
    pos := s.pos + 1
    nf := Mem.read s.buf s.pos
    k := 0#8
    out := s.out ++ [fieldRecord .nf 0#8 (Mem.read s.buf s.pos)]
    fsm := if Mem.read s.buf s.pos = 0#8 then .scan else .dCi } := withRead1_of_lt _ h

/-- D_CI inside the buffer (R147). -/
theorem exec_dCi_of_lt : exec .dCi s = .next { s with
    pos := s.pos + 1
    ci := Mem.read s.buf s.pos
    out := s.out ++ [fieldRecord .ci s.k (Mem.read s.buf s.pos)]
    fsm := .dHv } := withRead1_of_lt _ h

/-- D_HV inside the buffer (R148). -/
theorem exec_dHv_of_lt : exec .dHv s = .next { s with
    pos := s.pos + 1
    hi := topNibble (Mem.read s.buf s.pos)
    vi := bottomNibble (Mem.read s.buf s.pos)
    out := s.out ++ [fieldRecord .hi s.k (topNibble (Mem.read s.buf s.pos)),
      fieldRecord .vi s.k (bottomNibble (Mem.read s.buf s.pos))]
    fsm := .dTq } := by
  refine (withRead1_of_lt _ h).trans ?_
  rw [State.emitField, State.emitField, State.emit_emit]
  rfl

/-- D_TQ inside the buffer, at the last component (R149). -/
theorem exec_dTq_of_last (hk : s.k.toNat + 1 = s.nf.toNat) : exec .dTq s = .next { s with
    pos := s.pos + 1
    tq := Mem.read s.buf s.pos
    out := s.out ++ [fieldRecord .tqi s.k (Mem.read s.buf s.pos)]
    fsm := .scan } := (withRead1_of_lt _ h).trans (congrArg _ (if_pos hk))

/-- D_TQ inside the buffer, at any other component (R149). -/
theorem exec_dTq_of_not_last (hk : s.k.toNat + 1 ≠ s.nf.toNat) : exec .dTq s = .next { s with
    pos := s.pos + 1
    tq := Mem.read s.buf s.pos
    k := s.k + 1#8
    out := s.out ++ [fieldRecord .tqi s.k (Mem.read s.buf s.pos)]
    fsm := .dCi } := (withRead1_of_lt _ h).trans (congrArg _ (if_neg hk))

end OneByte

end Sys2Proof.Machine
end

section
/-! The fields the steps of the frame header decoder record. -/

namespace Sys2Proof.Machine

/-- PEEK2 answers the two bytes big-endian, or 0 past its bound (R52, R101). -/
theorem State.halfAt_peek2 (s : State) (a : Nat) : s.HalfAt a (s.peek2 a) := by
  constructor
  · intro h
    rw [State.peek2_of_lt h, BitVec.toNat_append, ← Nat.shiftLeft_add_eq_or_of_lt (BitVec.isLt _),
      Nat.shiftLeft_eq]
  · intro h
    rw [State.peek2_of_ge h]
    rfl

/-- R141: the label of SOF0's marker. -/
theorem kindOf_lossy {mk : Half} (h : mk.toNat = 0xFFC0) : kindOf mk = .lossy :=
  if_pos (BitVec.eq_of_toNat_eq h)

/-- R141: the label of SOF3's marker. -/
theorem kindOf_lossless {mk : Half} (h : mk.toNat = 0xFFC3) : kindOf mk = .lossless := by
  obtain rfl : mk = 0xFFC3#16 := BitVec.eq_of_toNat_eq h
  rfl

/-- R141: the label of any other marker. -/
theorem kindOf_unimpl {mk : Half} (h0 : mk.toNat ≠ 0xFFC0) (h3 : mk.toNat ≠ 0xFFC3) : kindOf mk = .unimpl := by
  have h0' : mk ≠ 0xFFC0#16 := fun h => h0 (congrArg BitVec.toNat h)
  have h3' : mk ≠ 0xFFC3#16 := fun h => h3 (congrArg BitVec.toNat h)
  rw [kindOf, if_neg h0', if_neg h3']

/-- R76: `Hi` is the byte divided by 16. -/
theorem toNat_topNibble (b : Byte) : (topNibble b).toNat = b.toNat / 16 := by
  rw [topNibble, BitVec.extractLsb'_toNat, Nat.shiftRight_eq_div_pow]
  exact Nat.mod_eq_of_lt (by have := b.isLt; omega)

/-- R76: `Vi` is the remainder. -/
theorem toNat_bottomNibble (b : Byte) : (bottomNibble b).toNat = b.toNat % 16 := by
  rw [bottomNibble, BitVec.extractLsb'_toNat, Nat.shiftRight_zero]

/-- Settles O25: the marker is PEEK2's answer, its label one of three. -/
theorem markStepEmitsTheFrameRecord : Obligations.MarkStepEmitsTheFrameRecord := by
  unfold Obligations.MarkStepEmitsTheFrameRecord
  intro s
  exact ⟨_, _, s.halfAt_peek2 s.pos, kindOf_lossy, kindOf_lossless, kindOf_unimpl, exec_dMark s⟩

/-- Settles O26: the value is PEEK2's answer, recorded as it is. -/
theorem lfStepRecordsTheLength : Obligations.LfStepRecordsTheLength := by
  unfold Obligations.LfStepRecordsTheLength
  intro s
  refine ⟨_, s.halfAt_peek2 s.pos, ?_⟩
  rw [exec_dLf, fieldRecord_half]
  rfl

/-- Settles O28: the value is PEEK2's answer, recorded as it is. -/
theorem yStepRecordsTheLines : Obligations.YStepRecordsTheLines := by
  unfold Obligations.YStepRecordsTheLines
  intro s
  refine ⟨_, s.halfAt_peek2 s.pos, ?_⟩
  rw [exec_dY, fieldRecord_half]
  rfl

/-- Settles O29: the value is PEEK2's answer, recorded as it is. -/
theorem xStepRecordsTheSamples : Obligations.XStepRecordsTheSamples := by
  unfold Obligations.XStepRecordsTheSamples
  intro s
  refine ⟨_, s.halfAt_peek2 s.pos, ?_⟩
  rw [exec_dX, fieldRecord_half]
  rfl

/-- Settles O27: the byte is there (`exec_dP_of_lt`) or READ1 faults (`withRead1_of_ge`). -/
theorem pStepRecordsThePrecision : Obligations.PStepRecordsThePrecision := by
  unfold Obligations.PStepRecordsThePrecision
  intro s
  exact ⟨exec_dP_of_lt, withRead1_of_ge _⟩

/-- Settles O30: with the byte there, the value 0 or another; else READ1 faults (`withRead1_of_ge`). -/
theorem nfStepStartsTheLoop : Obligations.NfStepStartsTheLoop := by
  unfold Obligations.NfStepStartsTheLoop
  intro s
  refine ⟨fun hlt hzero => ?_, fun hlt hpos => ?_, withRead1_of_ge _⟩
  · have hb : Mem.read s.buf s.pos = 0#8 := BitVec.eq_of_toNat_eq hzero
    rw [exec_dNf_of_lt hlt, hb]
    rfl
  · have hb : Mem.read s.buf s.pos ≠ 0#8 := fun h => hpos (congrArg BitVec.toNat h)
    rw [exec_dNf_of_lt hlt, if_neg hb]
    rfl

/-- Settles O31: the byte is there (`exec_dCi_of_lt`) or READ1 faults (`withRead1_of_ge`). -/
theorem ciStepRecordsTheIdentifier : Obligations.CiStepRecordsTheIdentifier := by
  unfold Obligations.CiStepRecordsTheIdentifier
  intro s
  exact ⟨exec_dCi_of_lt, withRead1_of_ge _⟩

/-- Settles O32: the byte is there and its nibbles are quotient and remainder, or READ1 faults
(`withRead1_of_ge`). -/
theorem hvStepSplitsTheByte : Obligations.HvStepSplitsTheByte := by
  unfold Obligations.HvStepSplitsTheByte
  intro s
  exact ⟨fun hlt => ⟨_, _, toNat_topNibble _, toNat_bottomNibble _, exec_dHv_of_lt hlt⟩, withRead1_of_ge _⟩

/-- Settles O33: with the byte there, the last component or another; else READ1 faults (`withRead1_of_ge`). -/
theorem tqStepLoopsOrReturns : Obligations.TqStepLoopsOrReturns := by
  unfold Obligations.TqStepLoopsOrReturns
  intro s
  exact ⟨exec_dTq_of_last, exec_dTq_of_not_last, withRead1_of_ge _⟩

end Sys2Proof.Machine
end

section
/-! A complete frame header (R150, R151). -/

namespace Sys2Proof.Machine

/-- A run takes its first step, then the others. -/
theorem run_succ_of_next {M : Host.Core} {s t : M.State} (k : Nat) (h : M.step s = .next t) :
    M.run (k + 1) s = M.run k t := by
  rw [Host.Core.run, h]

/-- A run is a run of its first steps, then one of the others. -/
theorem run_add_of_next {M : Host.Core} {j : Nat} {s t : M.State} (k : Nat) (h : M.run j s = .next t) :
    M.run (j + k) s = M.run k t := by
  induction j generalizing s with
  | zero =>
    cases h
    rw [Nat.zero_add]
  | succ j ih =>
    rw [Nat.add_right_comm]
    rw [Host.Core.run] at h ⊢
    cases hs : M.step s with
    | next u =>
      rw [hs] at h
      exact ih h
    | fault r | refused r => simp [hs] at h

/-- A part of a decode: `j` steps lead from `s` to `t`, move `POS` by `n` bytes, append the records `rs` and leave the
buffer, `L`, `ERR` and the pins as they are. -/
structure Decodes (j n : Nat) (rs : List Record) (s t : State) : Prop where
  run : Sys2Proof.core.run j s = .next t
  pos : t.pos = s.pos + n
  out : t.out = s.out ++ rs
  buf : t.buf = s.buf
  len : t.len = s.len
  err : t.err = s.err
  pins : t.pins = s.pins

/-- Two parts of a decode, one after the other. -/
theorem Decodes.trans {j k m n : Nat} {rs qs : List Record} {s t u : State} (h : Decodes j m rs s t)
    (h' : Decodes k n qs t u) : Decodes (j + k) (m + n) (rs ++ qs) s u where
  run := (run_add_of_next k h.run).trans h'.run
  pos := by rw [h'.pos, h.pos, Nat.add_assoc]
  out := by rw [h'.out, h.out, List.append_assoc]
  buf := h'.buf.trans h.buf
  len := h'.len.trans h.len
  err := h'.err.trans h.err
  pins := h'.pins.trans h.pins

/-- With the pins at rest, one step of a run is the operation `STATE` selects. -/
theorem run_one_quiet {s t : State} {i : Instr} {f : Fsm} (hpins : s.pins = []) (hfsm : s.fsm = f)
    (hi : decodeFsm f.code = .ok i) (h : exec i s = .next t) : Sys2Proof.core.run 1 s = .next t :=
  run_succ_of_next (M := Sys2Proof.core) 0 ((step_quiet hpins (hfsm ▸ hi)).trans h)

section Fields

variable {s : State} (hpins : s.pins = [])
include hpins

/-- The marker and its label (R141). -/
theorem decodes_dMark (hfsm : s.fsm = .dMark) :
    ∃ t, Decodes 1 2 [.frameBegin (s.peek2 s.pos) (kindOf (s.peek2 s.pos))] s t ∧ t.fsm = .dLf :=
  ⟨_, ⟨run_one_quiet hpins hfsm rfl (exec_dMark s), rfl, rfl, rfl, rfl, rfl, rfl⟩, rfl⟩

/-- `Lf` (R142). -/
theorem decodes_dLf (hfsm : s.fsm = .dLf) :
    ∃ t, Decodes 1 2 [fieldRecord .lf 0#8 (s.peek2 s.pos)] s t ∧ t.fsm = .dP :=
  ⟨_, ⟨run_one_quiet hpins hfsm rfl (exec_dLf s), rfl, rfl, rfl, rfl, rfl, rfl⟩, rfl⟩

/-- `Y` (R144). -/
theorem decodes_dY (hfsm : s.fsm = .dY) :
    ∃ t, Decodes 1 2 [fieldRecord .y 0#8 (s.peek2 s.pos)] s t ∧ t.fsm = .dX :=
  ⟨_, ⟨run_one_quiet hpins hfsm rfl (exec_dY s), rfl, rfl, rfl, rfl, rfl, rfl⟩, rfl⟩

/-- `X` (R145). -/
theorem decodes_dX (hfsm : s.fsm = .dX) :
    ∃ t, Decodes 1 2 [fieldRecord .x 0#8 (s.peek2 s.pos)] s t ∧ t.fsm = .dNf :=
  ⟨_, ⟨run_one_quiet hpins hfsm rfl (exec_dX s), rfl, rfl, rfl, rfl, rfl, rfl⟩, rfl⟩

variable (hlt : s.pos < s.len)
include hlt

/-- `P` (R143). -/
theorem decodes_dP (hfsm : s.fsm = .dP) :
    ∃ t, Decodes 1 1 [fieldRecord .p 0#8 (Mem.read s.buf s.pos)] s t ∧ t.fsm = .dY :=
  ⟨_, ⟨run_one_quiet hpins hfsm rfl (exec_dP_of_lt hlt), rfl, rfl, rfl, rfl, rfl, rfl⟩, rfl⟩

/-- `Nf` (R146). -/
theorem decodes_dNf (hfsm : s.fsm = .dNf) :
    ∃ t, Decodes 1 1 [fieldRecord .nf 0#8 (Mem.read s.buf s.pos)] s t ∧ t.nf = Mem.read s.buf s.pos ∧
      t.k = 0#8 ∧ t.fsm = if Mem.read s.buf s.pos = 0#8 then .scan else .dCi :=
  ⟨_, ⟨run_one_quiet hpins hfsm rfl (exec_dNf_of_lt hlt), rfl, rfl, rfl, rfl, rfl, rfl⟩, rfl, rfl, rfl⟩

/-- `Ci` (R147). -/
theorem decodes_dCi (hfsm : s.fsm = .dCi) :
    ∃ t, Decodes 1 1 [fieldRecord .ci s.k (Mem.read s.buf s.pos)] s t ∧ t.nf = s.nf ∧ t.k = s.k ∧ t.fsm = .dHv :=
  ⟨_, ⟨run_one_quiet hpins hfsm rfl (exec_dCi_of_lt hlt), rfl, rfl, rfl, rfl, rfl, rfl⟩, rfl, rfl, rfl⟩

/-- `Hi` and `Vi` (R148). -/
theorem decodes_dHv (hfsm : s.fsm = .dHv) :
    ∃ t, Decodes 1 1 [fieldRecord .hi s.k (topNibble (Mem.read s.buf s.pos)),
        fieldRecord .vi s.k (bottomNibble (Mem.read s.buf s.pos))] s t ∧
      t.nf = s.nf ∧ t.k = s.k ∧ t.fsm = .dTq :=
  ⟨_, ⟨run_one_quiet hpins hfsm rfl (exec_dHv_of_lt hlt), rfl, rfl, rfl, rfl, rfl, rfl⟩, rfl, rfl, rfl⟩

/-- `Tqi`: the last component ends the segment, another begins the next one (R149). -/
theorem decodes_dTq (hfsm : s.fsm = .dTq) :
    ∃ t, Decodes 1 1 [fieldRecord .tqi s.k (Mem.read s.buf s.pos)] s t ∧
      ((s.k.toNat + 1 = s.nf.toNat ∧ t.fsm = .scan) ∨
        (s.k.toNat + 1 ≠ s.nf.toNat ∧ t.nf = s.nf ∧ t.k = s.k + 1#8 ∧ t.fsm = .dCi)) := by
  by_cases hk : s.k.toNat + 1 = s.nf.toNat
  · exact ⟨_, ⟨run_one_quiet hpins hfsm rfl (exec_dTq_of_last hlt hk), rfl, rfl, rfl, rfl, rfl, rfl⟩, .inl ⟨hk, rfl⟩⟩
  · exact ⟨_, ⟨run_one_quiet hpins hfsm rfl (exec_dTq_of_not_last hlt hk), rfl, rfl, rfl, rfl, rfl, rfl⟩,
      .inr ⟨hk, rfl, rfl, rfl⟩⟩

end Fields

/-- After `n` bytes, inside the buffer, the next byte can be read. -/
theorem Decodes.pos_lt {j n : Nat} {rs : List Record} {s t : State} (d : Decodes j n rs s t)
    (h : s.pos + n < s.len) : t.pos < t.len := by
  rw [d.pos, d.len]
  exact h

/-- The byte at `POS` after `n` bytes. -/
theorem Decodes.read_pos {j n : Nat} {rs : List Record} {s t : State} (d : Decodes j n rs s t) :
    Mem.read t.buf t.pos = Mem.read s.buf (s.pos + n) := by
  rw [d.buf, d.pos]

/-- The 16-bit value at `POS` after `n` bytes, inside the bound of PEEK2 (R101). -/
theorem Decodes.peek2_pos {j n : Nat} {rs : List Record} {s t : State} (d : Decodes j n rs s t)
    (h : s.pos + n + 2 < s.len) : t.peek2 t.pos = bufHalf s.buf (s.pos + n) := by
  rw [← d.pos, ← d.len] at h
  rw [State.peek2_of_lt h, d.buf, d.pos, bufHalf]

/-- Six steps decode the fixed fields (R141-R146). -/
theorem decodes_fixedFields {s : State} (hpins : s.pins = []) (hfsm : s.fsm = .dMark) (hlen : s.pos + 10 ≤ s.len) :
    ∃ t, Decodes 6 10 (fixedRecords s.buf s.pos) s t ∧ t.nf = segNf s.buf s.pos ∧ t.k = 0#8 ∧
      t.fsm = if segNf s.buf s.pos = 0#8 then .scan else .dCi := by
  obtain ⟨t, d, hfsm⟩ := decodes_dMark hpins hfsm
  rw [State.peek2_of_lt (by omega)] at d
  obtain ⟨t, d', hfsm⟩ := decodes_dLf (d.pins.trans hpins) hfsm
  rw [d.peek2_pos (by omega)] at d'
  replace d := d.trans d'
  obtain ⟨t, d', hfsm⟩ := decodes_dP (d.pins.trans hpins) (d.pos_lt (by omega)) hfsm
  rw [d.read_pos] at d'
  replace d := d.trans d'
  obtain ⟨t, d', hfsm⟩ := decodes_dY (d.pins.trans hpins) hfsm
  rw [d.peek2_pos (by omega)] at d'
  replace d := d.trans d'
  obtain ⟨t, d', hfsm⟩ := decodes_dX (d.pins.trans hpins) hfsm
  rw [d.peek2_pos (by omega)] at d'
  replace d := d.trans d'
  obtain ⟨t, d', hnf, hk, hfsm⟩ := decodes_dNf (d.pins.trans hpins) (d.pos_lt (by omega)) hfsm
  rw [d.read_pos] at d' hnf hfsm
  exact ⟨t, d.trans d', hnf, hk, hfsm⟩

/-- The records of a component whose first byte is at `a` (R75, R151). -/
theorem componentRecords_at {buf : List Host.Cell} {m a : Nat} {k : Byte} (ha : a = m + 10 + 3 * k.toNat) :
    componentRecords buf m k.toNat =
      [fieldRecord .ci k (Mem.read buf a), fieldRecord .hi k (topNibble (Mem.read buf (a + 1))),
        fieldRecord .vi k (bottomNibble (Mem.read buf (a + 1))), fieldRecord .tqi k (Mem.read buf (a + 2))] := by
  have hhv : m + 11 + 3 * k.toNat = a + 1 := by omega
  have htq : m + 12 + 3 * k.toNat = a + 2 := by omega
  rw [componentRecords, BitVec.ofNat_toNat, BitVec.setWidth_eq, ← ha, hhv, htq]

/-- Three steps decode component `K` (R147-R149). -/
theorem decodes_component {s : State} {m : Nat} (hpins : s.pins = []) (hfsm : s.fsm = .dCi)
    (hpos : s.pos = m + 10 + 3 * s.k.toNat) (hlen : s.pos + 3 ≤ s.len) :
    ∃ t, Decodes 3 3 (componentRecords s.buf m s.k.toNat) s t ∧
      ((s.k.toNat + 1 = s.nf.toNat ∧ t.fsm = .scan) ∨
        (s.k.toNat + 1 ≠ s.nf.toNat ∧ t.nf = s.nf ∧ t.k = s.k + 1#8 ∧ t.fsm = .dCi)) := by
  obtain ⟨t, d, hnf, hk, hfsm⟩ := decodes_dCi hpins (by omega) hfsm
  obtain ⟨t', d', hnf', hk', hfsm⟩ := decodes_dHv (d.pins.trans hpins) (d.pos_lt (by omega)) hfsm
  rw [d.read_pos, hk] at d'
  replace d := d.trans d'
  obtain ⟨u, d', hend⟩ := decodes_dTq (d.pins.trans hpins) (d.pos_lt (by omega)) hfsm
  rw [hk', hk, hnf', hnf] at hend
  rw [d.read_pos, hk', hk] at d'
  rw [componentRecords_at hpos]
  exact ⟨u, d.trans d', hend⟩

/-- Three steps for each of `n + 1` components that are left decode them all and end the segment (R149). -/
theorem decodes_components {m : Nat} (n : Nat) {s : State} (hpins : s.pins = []) (hfsm : s.fsm = .dCi)
    (hpos : s.pos = m + 10 + 3 * s.k.toNat) (hnf : s.k.toNat + (n + 1) = s.nf.toNat)
    (hlen : s.pos + 3 * (n + 1) ≤ s.len) :
    ∃ t, Decodes (3 * (n + 1)) (3 * (n + 1)) (componentRecordsFrom s.buf m s.k.toNat (n + 1)) s t ∧ t.fsm = .scan := by
  induction n generalizing s with
  | zero =>
    obtain ⟨t, d, ⟨-, hscan⟩ | ⟨hne, -⟩⟩ := decodes_component hpins hfsm hpos (by omega)
    · rw [componentRecordsFrom, componentRecordsFrom, List.append_nil]
      exact ⟨t, d, hscan⟩
    · exact absurd hnf hne
  | succ n ih =>
    obtain ⟨t, d, ⟨heq, -⟩ | ⟨-, htnf, htk, htfsm⟩⟩ := decodes_component hpins hfsm hpos (by omega)
    · omega
    · have hk : t.k.toNat = s.k.toNat + 1 := by
        rw [htk]
        have := s.nf.isLt
        bv_omega
      obtain ⟨u, d', hscan⟩ := ih (d.pins.trans hpins) htfsm (by rw [d.pos, hk]; omega) (by rw [hk, htnf]; omega)
        (by rw [d.pos, d.len]; omega)
      rw [d.buf, hk] at d'
      rw [Nat.mul_succ 3 (n + 1), Nat.add_comm _ 3]
      exact ⟨u, d.trans d', hscan⟩

/-- A component has four records. -/
theorem length_componentRecordsFrom (buf : List Host.Cell) (m j n : Nat) :
    (componentRecordsFrom buf m j n).length = 4 * n := by
  induction n generalizing j with
  | zero => rfl
  | succ n ih =>
    rw [componentRecordsFrom, List.length_append, ih, componentRecords]
    simp only [List.length_cons, List.length_nil]
    omega

/-- R151: the length of the record sequence. -/
theorem length_headerRecords (buf : List Host.Cell) (m : Nat) :
    (headerRecords buf m).length = 6 + 4 * (segNf buf m).toNat := by
  rw [headerRecords, List.length_append, length_componentRecordsFrom, fixedRecords]
  rfl

/-- A segment that lies whole in the buffer is decoded, and the decoder returns to SCAN behind it (R150). -/
theorem decodes_header {s : State} (hpins : s.pins = []) (hfsm : s.fsm = .dMark)
    (hlen : s.pos + segLength s.buf s.pos ≤ s.len) :
    ∃ t, Decodes (6 + 3 * (segNf s.buf s.pos).toNat) (segLength s.buf s.pos) (headerRecords s.buf s.pos) s t ∧
      t.fsm = .scan := by
  unfold segLength at hlen ⊢
  unfold headerRecords
  obtain ⟨t, d, hnf, hk, htfsm⟩ := decodes_fixedFields hpins hfsm (by omega)
  cases hn : (segNf s.buf s.pos).toNat with
  | zero =>
    have hzero : segNf s.buf s.pos = 0#8 := BitVec.eq_of_toNat_eq hn
    rw [if_pos hzero] at htfsm
    rw [componentRecordsFrom, List.append_nil]
    exact ⟨t, d, htfsm⟩
  | succ n =>
    have hpos : segNf s.buf s.pos ≠ 0#8 := fun hzero => by simp [hzero] at hn
    rw [if_neg hpos] at htfsm
    obtain ⟨u, d', hscan⟩ := decodes_components (m := s.pos) n (d.pins.trans hpins) htfsm
      (by rw [d.pos, hk]; rfl) (by rw [hk, hnf, hn]; exact Nat.zero_add _) (by rw [d.pos, d.len]; omega)
    rw [d.buf, hk] at d'
    exact ⟨u, d.trans d', hscan⟩

/-- Settles O34: the fixed fields (`decodes_fixedFields`), then the components by induction on how many are left
(`decodes_components`). -/
theorem completeHeaderDecodes : Obligations.CompleteHeaderDecodes := by
  unfold Obligations.CompleteHeaderDecodes
  intro s hfsm hpins hlen
  obtain ⟨t, d, hscan⟩ := decodes_header hpins hfsm hlen
  have hpos : t.pos = s.pos + 10 + 3 * (segNf s.buf s.pos).toNat := by rw [d.pos, segLength, Nat.add_assoc]
  have hend : t.pos ≤ t.len := by rwa [d.pos, d.len]
  exact ⟨t, d.run, hscan, hpos, hend, d.err, d.out, length_headerRecords s.buf s.pos⟩

end Sys2Proof.Machine
end

section
/-! The start command and the start-of-image gate (R180, R181). -/

namespace Sys2Proof.Machine

/-- R9: the idle states are IDLE, DONE and ERROR. -/
theorem Fsm.isIdle_iff (f : Fsm) : f.isIdle = true ↔ f = .idle ∨ f = .done ∨ f = .error := by
  simp [Fsm.isIdle, or_assoc]

/-- An accepted START completes (R180). -/
theorem exec_start_eq_beginRun {s : State} (n : Nat) (hs : s.fsm.isIdle = true) :
    exec (.start n) s = .next (s.beginRun n) := if_pos hs

/-- START while busy changes nothing (R180). -/
theorem exec_start_eq_self {s : State} (n : Nat) (hs : ¬ s.fsm.isIdle = true) : exec (.start n) s = .next s :=
  if_neg hs

/-- An accepted START writes these six registers and nothing else (R180). -/
theorem State.beginRun_eq (s : State) (n : Nat) :
    s.beginRun n = { s with len := n, pos := 0, kind := .none, err := .none, out := [], fsm := .soi } := rfl

/-- Settles O38: START is accepted (`exec_start_eq_beginRun`) or ignored (`exec_start_eq_self`) as `STATE` is one of the
three idle states or none of them (`Fsm.isIdle_iff`). -/
theorem startBeginsARunWhenIdle : Obligations.StartBeginsARunWhenIdle := by
  unfold Obligations.StartBeginsARunWhenIdle
  refine ⟨fun s n hidle => ?_, fun s n hnotIdle hnotDone hnotError => ?_⟩
  · rw [exec_start_eq_beginRun n ((Fsm.isIdle_iff s.fsm).mpr hidle), State.beginRun_eq]
  · refine exec_start_eq_self n fun hs => ?_
    obtain h | h | h := (Fsm.isIdle_iff s.fsm).mp hs
    · exact hnotIdle h
    · exact hnotDone h
    · exact hnotError h

/-- The gate passes on an image header, with the cursor behind it (R181). -/
theorem exec_soi_of_hasSoi {s : State} (hs : s.hasSoi = true) :
    exec .soi s = .next { s with pos := 2, fsm := .scan } := if_pos hs

/-- The gate faults without an image header, and the fault leaves `POS` as it is (R181, R205). -/
theorem exec_soi_of_not_hasSoi {s : State} (hs : ¬ s.hasSoi = true) :
    exec .soi s = .next { s with fsm := .error, err := .invalidSoi } := if_neg hs

/-- The gate asks for no byte below its bound (R51, R181). -/
theorem State.memReads_soi_of_lt {s : State} (h : s.len < 2) : s.memReads .soi = [] :=
  if_neg (Nat.not_le_of_gt h)

/-- Settles O40: the check the gate branches on is the exact bound and the two bytes (`State.hasSoi_iff`), so one of
`exec_soi_of_hasSoi` and `exec_soi_of_not_hasSoi` applies. -/
theorem soiGateChecksTwoBytes : Obligations.SoiGateChecksTwoBytes := by
  unfold Obligations.SoiGateChecksTwoBytes
  intro s
  rw [← State.hasSoi_iff]
  exact ⟨exec_soi_of_hasSoi, exec_soi_of_not_hasSoi, State.memReads_soi_of_lt⟩

end Sys2Proof.Machine
end

section
/-! Fault entry (R200, R204, R205). -/

namespace Sys2Proof.Machine

/-- The end of D_TQ raises no fault. -/
@[simp] theorem State.nextComponent_err (s : State) : s.nextComponent.err = s.err := by
  obtain ⟨-, hs⟩ | ⟨-, hs⟩ := s.nextComponent_cases <;> simp [hs]

/-- The causes of the table of R200: `i`, run in `s`, raises `e`. -/
def FaultCause (i : Instr) (s : State) (e : ErrCode) : Prop :=
  (e = .invalidSoi ∧ i = .soi ∧ ¬ (2 ≤ s.len ∧ Mem.read s.buf 0 = 0xFF#8 ∧ Mem.read s.buf 1 = 0xD8#8)) ∨
    (e = .readOor ∧ s.len ≤ s.pos ∧ i ∈ [Instr.dP, .dNf, .dCi, .dHv, .dTq, .read1]) ∨
    (e = .readOor ∧ ∃ p : Nat, i = .peek1 p ∧ s.len ≤ p)

/-- `t` shows no error, or is the fault entry of `s` for a cause of R200. -/
def NoErrorOrFaultEntry (i : Instr) (s t : State) : Prop :=
  t.err = .none ∨ ∃ e : ErrCode, FaultCause i s e ∧ t = s.raise e

/-- A one-byte step shows the error of what it does with the byte, or takes READ1's fault (R102). -/
theorem withRead1_noErrorOrFaultEntry {i : Instr} {s t : State} {f : Byte → State → State}
    (h : withRead1 s f = .next t) (hi : i ∈ [Instr.dP, .dNf, .dCi, .dHv, .dTq, .read1])
    (hf : ∀ v, (f v (s.setPos (s.pos + 1))).err = .none) : NoErrorOrFaultEntry i s t := by
  obtain ⟨-, rfl⟩ | ⟨hge, rfl⟩ := withRead1_cases h
  · exact .inl (hf _)
  · exact .inr ⟨.readOor, .inr (.inl ⟨rfl, hge, hi⟩), rfl⟩

/-- R204: from a state without an error, an operation leads to one without an error or to a fault entry. -/
theorem exec_noErrorOrFaultEntry {i : Instr} {s t : State} (h : exec i s = .next t) (hs : s.err = .none) :
    NoErrorOrFaultEntry i s t := by
  cases i with
  | filler w | fillerFfff | sof0 | sof3 | otherMarker w | peek2 p | read2 | advance | hasLookahead
  | dMark | dLf | dY | dX =>
    cases h
    exact .inl hs
  | start n =>
    obtain ⟨-, rfl⟩ | ⟨-, rfl⟩ := execStart_cases h
    · exact .inl (State.beginRun_err s n)
    · exact .inl hs
  | soi =>
    obtain ⟨-, rfl⟩ | ⟨hsoi, rfl⟩ := execSoi_cases h
    · exact .inl hs
    · rw [Bool.eq_false_iff, ne_eq, State.hasSoi_iff] at hsoi
      exact .inr ⟨.invalidSoi, .inl ⟨rfl, rfl, hsoi⟩, rfl⟩
  | scan => exact .inl ((execScan_keeps_out_err h).2.trans hs)
  | peek1 p =>
    obtain ⟨-, rfl⟩ | ⟨hge, rfl⟩ := execPeek1_cases h
    · exact .inl hs
    · exact .inr ⟨.readOor, .inr (.inr ⟨rfl, p, rfl, hge⟩), rfl⟩
  | hasNext =>
    obtain ⟨-, rfl⟩ := execHasNext_cases h
    exact .inl hs
  | read1 =>
    exact withRead1_noErrorOrFaultEntry ((execRead1_eq_withRead1 s).symm.trans h) (by simp) fun _ => hs
  | dP | dNf | dCi | dHv => exact withRead1_noErrorOrFaultEntry h (by simp) fun _ => hs
  | dTq => exact withRead1_noErrorOrFaultEntry h (by simp) fun _ => (State.nextComponent_err _).trans hs

/-- Settles O41: a next state with an error is a fault entry for one of the causes (`exec_noErrorOrFaultEntry`), and
fault entry is `State.raise`, which writes `ERR` and `STATE` alone. -/
theorem faultEntryIsPrecise : Obligations.FaultEntryIsPrecise := by
  unfold Obligations.FaultEntryIsPrecise
  intro i s t h hs ht
  obtain hnone | ⟨e, hcause, rfl⟩ := exec_noErrorOrFaultEntry h hs
  · exact absurd hnone ht
  · exact ⟨rfl, hcause⟩

end Sys2Proof.Machine
end

section
/-! The end of a run (R237, R238). -/

namespace Sys2Proof.Machine

/-- A run that is over stays as it is while the pins rest (R9). -/
theorem run_of_runOver {s : State} (hpins : s.pins = []) (h : s.RunOver) (k : Nat) :
    Sys2Proof.core.run k s = .next s := by
  have hidle : decodeFsm s.fsm.code = .error .idleState := by
    obtain h | h := h <;> rw [h] <;> rfl
  induction k with
  | zero => rfl
  | succ k ih => exact (run_succ_of_next (M := Sys2Proof.core) k (step_quiet_idle hpins hidle)).trans ih

/-- Outside `POS` = 0 the SCAN step completes (R121). -/
theorem exists_execScan {s : State} (hpos : s.pos ≠ 0) : ∃ t, execScan s = .next t := by
  have hdef : s.hasNextDefined = true := decide_eq_true hpos
  rw [execScan, if_pos hdef]
  by_cases hnext : s.hasNext = true
  · rw [if_pos hnext]
    obtain ⟨-, -, ht⟩ | ⟨-, ht⟩ := scanBranch_cases (s.peek2 s.pos) s <;> exact ⟨_, ht⟩
  · rw [if_neg hnext]
    exact ⟨_, rfl⟩

/-- PEEK2 sees a frame marker inside its bound only, since the answer past it is 0 (R101). -/
theorem State.lt_of_peek2_ne_zero {s : State} {a : Nat} (h : s.peek2 a ≠ 0#16) : a + 2 < s.len := by
  by_contra hge
  exact h (State.peek2_of_ge (Nat.le_of_not_lt hge))

/-- A run is past the gate, and the count of R238 leaves it `n` steps. A decode moves `POS` by at least one byte a
step and by two in D_MARK, D_LF, D_Y and D_X, so each state allows for the bytes that the steps before it have gained.
The bound on `POS` in each state keeps the fault of a cut-off segment inside the count (R153). -/
def StepsLeft (n : Nat) (s : State) : Prop :=
  match s.fsm with
  | .idle | .soi => False
  | .scan => s.pos ≠ 0 ∧ s.pos ≤ s.len + 1 ∧ s.len + 2 ≤ s.pos + n
  | .dMark => s.pos + 2 < s.len ∧ s.len + 1 ≤ s.pos + n
  | .dLf => s.pos < s.len ∧ s.len + 2 ≤ s.pos + n
  | .dP => s.pos ≤ s.len + 1 ∧ s.len + 3 ≤ s.pos + n
  | .dY => s.pos ≤ s.len ∧ s.len + 3 ≤ s.pos + n
  | .dX => s.pos ≤ s.len + 2 ∧ s.len + 4 ≤ s.pos + n
  | .dNf => s.pos ≤ s.len + 4 ∧ s.len + 5 ≤ s.pos + n
  | .dCi | .dHv | .dTq => s.pos ≤ s.len ∧ s.len + 5 ≤ s.pos + n
  | .done | .error => True

/-- The step of `s` completes, with the pins still at rest, and leaves the run `n` steps. -/
def StepLeaves (n : Nat) (s : State) : Prop :=
  ∃ t, step s = .next t ∧ t.pins = [] ∧ StepsLeft n t

/-- Without a step left the run is over: every other state allows for one more. -/
theorem StepsLeft.runOver_of_zero {s : State} (h : StepsLeft 0 s) : s.RunOver := by
  unfold StepsLeft at h
  cases hfsm : s.fsm <;> simp only [hfsm] at h
  case done => exact .inl hfsm
  case error => exact .inr hfsm
  all_goals omega

section Quiet

variable {s : State} {n : Nat} {i : Instr} {f : Fsm} (hpins : s.pins = []) (hfsm : s.fsm = f)
  (hi : decodeFsm f.code = .ok i)
include hpins hfsm hi

/-- With the pins at rest, the operation `STATE` selects says what the step leaves. -/
theorem stepLeaves_of_exec {t : State} (h : exec i s = .next t) (ht : t.pins = []) (hleft : StepsLeft n t) :
    StepLeaves n s :=
  ⟨t, (step_quiet hpins (hfsm ▸ hi)).trans h, ht, hleft⟩

/-- A one-byte step outside the buffer faults, which ends the run (R102, R205); inside it, what the step does with the
byte says what it leaves. -/
theorem stepLeaves_of_withRead1 {g : Byte → State → State} (h : exec i s = withRead1 s g)
    (hlt : s.pos < s.len → StepLeaves n s) : StepLeaves n s := by
  obtain hin | hout := Nat.lt_or_ge s.pos s.len
  · exact hlt hin
  · exact stepLeaves_of_exec hpins hfsm hi (h.trans (withRead1_of_ge g hout)) hpins trivial

end Quiet

/-- A SCAN step ends the run, advances or dispatches, and each is one step of the count (R121-R127). -/
theorem stepLeaves_scan {s : State} {n : Nat} (hpins : s.pins = []) (hfsm : s.fsm = .scan)
    (h : StepsLeft (n + 1) s) : StepLeaves n s := by
  simp only [StepsLeft, hfsm] at h
  obtain ⟨hpos, -, hn⟩ := h
  obtain ⟨t, ht⟩ := exists_execScan hpos
  have hloop (hnext : s.hasNext = true) : s.pos ≤ s.len := by
    by_contra hgt
    simp [State.hasNext_of_gt (Nat.lt_of_not_le hgt)] at hnext
  obtain ⟨-, ⟨-, rfl⟩ | ⟨hnext, -, -, rfl⟩ | ⟨-, hmark, rfl⟩⟩ := execScan_cases ht
  · exact stepLeaves_of_exec hpins hfsm rfl ht hpins trivial
  · refine stepLeaves_of_exec hpins hfsm rfl ht hpins ?_
    have hle := hloop hnext
    simp only [StepsLeft, State.advance_fsm, State.advance_pos, State.advance_len, hfsm]
    omega
  · refine stepLeaves_of_exec hpins hfsm rfl ht hpins ?_
    have hlt : s.pos + 2 < s.len := by
      refine State.lt_of_peek2_ne_zero ?_
      obtain hw | hw := hmark <;> rw [hw] <;> decide
    simp only [StepsLeft, State.setFsm_fsm, State.setFsm_pos, State.setFsm_len]
    omega

/-- Every step of a run takes one off the count of R238. -/
theorem StepsLeft.stepLeaves {s : State} {n : Nat} (hpins : s.pins = []) (h : StepsLeft (n + 1) s) :
    s.RunOver ∨ StepLeaves n s := by
  have hleft := h
  unfold StepsLeft at h
  cases hfsm : s.fsm <;> simp only [hfsm] at h
  case done => exact .inl (.inl hfsm)
  case error => exact .inl (.inr hfsm)
  case scan => exact .inr (stepLeaves_scan hpins hfsm hleft)
  all_goals right
  case dMark => exact stepLeaves_of_exec hpins hfsm rfl (exec_dMark s) hpins (by simp only [StepsLeft]; omega)
  case dLf => exact stepLeaves_of_exec hpins hfsm rfl (exec_dLf s) hpins (by simp only [StepsLeft]; omega)
  case dY => exact stepLeaves_of_exec hpins hfsm rfl (exec_dY s) hpins (by simp only [StepsLeft]; omega)
  case dX => exact stepLeaves_of_exec hpins hfsm rfl (exec_dX s) hpins (by simp only [StepsLeft]; omega)
  case dP =>
    exact stepLeaves_of_withRead1 hpins hfsm rfl rfl fun hlt =>
      stepLeaves_of_exec hpins hfsm rfl (exec_dP_of_lt hlt) hpins (by simp only [StepsLeft]; omega)
  case dNf =>
    refine stepLeaves_of_withRead1 hpins hfsm rfl rfl fun hlt => ?_
    refine stepLeaves_of_exec hpins hfsm rfl (exec_dNf_of_lt hlt) hpins ?_
    by_cases hzero : Mem.read s.buf s.pos = 0#8 <;> simp only [StepsLeft, hzero, ↓reduceIte] <;> omega
  case dCi =>
    exact stepLeaves_of_withRead1 hpins hfsm rfl rfl fun hlt =>
      stepLeaves_of_exec hpins hfsm rfl (exec_dCi_of_lt hlt) hpins (by simp only [StepsLeft]; omega)
  case dHv =>
    exact stepLeaves_of_withRead1 hpins hfsm rfl rfl fun hlt =>
      stepLeaves_of_exec hpins hfsm rfl (exec_dHv_of_lt hlt) hpins (by simp only [StepsLeft]; omega)
  case dTq =>
    refine stepLeaves_of_withRead1 hpins hfsm rfl rfl fun hlt => ?_
    by_cases hk : s.k.toNat + 1 = s.nf.toNat
    · exact stepLeaves_of_exec hpins hfsm rfl (exec_dTq_of_last hlt hk) hpins (by simp only [StepsLeft]; omega)
    · exact stepLeaves_of_exec hpins hfsm rfl (exec_dTq_of_not_last hlt hk) hpins (by simp only [StepsLeft]; omega)

/-- The count of R238 bounds the run: by induction on the steps left, each of which takes one off. -/
theorem StepsLeft.run_ends {s : State} {n : Nat} (hpins : s.pins = []) (h : StepsLeft n s) :
    ∃ t, Sys2Proof.core.run n s = .next t ∧ t.RunOver := by
  induction n generalizing s with
  | zero => exact ⟨s, rfl, h.runOver_of_zero⟩
  | succ n ih =>
    obtain hover | ⟨t, hstep, ht, hleft⟩ := h.stepLeaves hpins
    · exact ⟨s, run_of_runOver hpins hover (n + 1), hover⟩
    · obtain ⟨u, hrun, hover⟩ := ih ht hleft
      exact ⟨u, (run_succ_of_next (M := Sys2Proof.core) n hstep).trans hrun, hover⟩

/-- Settles O56: the gate ends the run, or begins the scan at `POS` = 2 of at least two bytes, where the count is `L`
(`StepsLeft.run_ends`). -/
theorem everyRunEnds : Obligations.EveryRunEnds := by
  unfold Obligations.EveryRunEnds
  intro s hfsm _ hpins
  have hstep : step s = exec .soi s := step_quiet hpins (hfsm ▸ rfl)
  by_cases hsoi : s.hasSoi = true
  · have hlen : 2 ≤ s.len := ((State.hasSoi_iff s).mp hsoi).1
    refine ⟨fun _ => ?_, fun hlt => absurd hlen (Nat.not_le_of_gt hlt)⟩
    rw [exec_soi_of_hasSoi hsoi] at hstep
    rw [run_succ_of_next (M := Sys2Proof.core) s.len hstep]
    refine StepsLeft.run_ends hpins ?_
    simp only [StepsLeft]
    omega
  · have hover : (s.raise .invalidSoi).RunOver := .inr rfl
    have hfault : step s = .next (s.raise .invalidSoi) := hstep.trans (exec_soi_of_not_hasSoi hsoi)
    have hends (k : Nat) : ∃ t, Sys2Proof.core.run (k + 1) s = .next t ∧ t.RunOver :=
      ⟨_, (run_succ_of_next (M := Sys2Proof.core) k hfault).trans
        (run_of_runOver (s := s.raise .invalidSoi) hpins hover k), hover⟩
    exact ⟨fun _ => hends s.len, fun _ => hends 0⟩

end Sys2Proof.Machine
end

section
/-! The input pins while busy (R234). -/

namespace Sys2Proof.Machine

/-- While busy `STATE` alone selects, whatever the pins show (R180, R234). -/
theorem State.selector_of_busy {s : State} (h : s.busy = true) : s.selector = .fsmState s.fsm.code := by
  have hidle : s.fsm.isIdle = false := by simpa [State.busy] using h
  simp [State.selector, hidle]

/-- The state with other coming samples. -/
def State.setPins (ps : List PinSample) (s : State) : State := { s with pins := ps }

/-- The outcome with other coming samples. -/
def outcomeSetPins (ps : List PinSample) : Host.Outcome State Fault Refusal → Host.Outcome State Fault Refusal
  | .next t => .next (t.setPins ps)
  | .fault r => .fault r
  | .refused r => .refused r

/-- A one-byte step does not read the pins if its use of the byte does not: `g` in `s`, `g'` under the samples `ps`. -/
theorem withRead1_setPins {s : State} {ps : List PinSample} {g g' : Byte → State → State}
    (hg : ∀ v t, g' v (t.setPins ps) = (g v t).setPins ps) :
    withRead1 (s.setPins ps) g' = outcomeSetPins ps (withRead1 s g) := by
  obtain hlt | hge := Nat.lt_or_ge s.pos s.len
  · rw [withRead1_of_lt g hlt, withRead1_of_lt (s := s.setPins ps) g' hlt]
    exact congrArg _ (hg _ (s.setPos (s.pos + 1)))
  · rw [withRead1_of_ge g hge, withRead1_of_ge (s := s.setPins ps) g' hge]
    rfl

/-- The end of D_TQ does not read the pins. -/
theorem State.nextComponent_setPins (s : State) (ps : List PinSample) :
    (s.setPins ps).nextComponent = s.nextComponent.setPins ps := by
  rw [State.nextComponent, State.nextComponent, apply_ite (State.setPins ps)]
  rfl

/-- A branch of the SCAN step does not read the pins. -/
theorem scanBranch_setPins (w : Half) (s : State) (ps : List PinSample) :
    scanBranch w (s.setPins ps) = outcomeSetPins ps (scanBranch w s) := by
  unfold scanBranch
  cases classify w <;> rfl

/-- No operation reads the pins: under other coming samples it answers the same, with these samples. -/
theorem exec_setPins (i : Instr) (s : State) (ps : List PinSample) :
    exec i (s.setPins ps) = outcomeSetPins ps (exec i s) := by
  cases i with
  | filler | fillerFfff | sof0 | sof3 | otherMarker | peek2 | read2 | advance | hasLookahead | dMark | dLf | dY | dX =>
    rfl
  | dP | dNf | dCi | dHv | read1 => exact withRead1_setPins fun _ _ => rfl
  | dTq =>
    exact withRead1_setPins fun v t => State.nextComponent_setPins ((t.setTq v).emitField .tqi s.k v) ps
  | start n | soi | hasNext =>
    simp only [exec, execStart, execSoi, execHasNext, apply_ite (outcomeSetPins ps)]
    rfl
  | scan =>
    simp only [exec, execScan, apply_ite (outcomeSetPins ps), ← scanBranch_setPins]
    rfl
  | peek1 p =>
    obtain hlt | hge := Nat.lt_or_ge p s.len
    · simp only [exec, execPeek1, State.peek1_of_lt hlt, State.peek1_of_lt (s := s.setPins ps) hlt]
      rfl
    · simp only [exec, execPeek1, State.peek1_of_ge hge, State.peek1_of_ge (s := s.setPins ps) hge]
      rfl

/-- The records an operation offers do not hang on the pins. -/
theorem State.recOffered_setPins (s : State) (ps : List PinSample) (i : Instr) :
    (s.setPins ps).recOffered i = s.recOffered i := by
  rw [State.recOffered, State.recOffered, exec_setPins]
  cases exec i s <;> rfl

/-- The reads an operation asks for do not hang on the pins. -/
theorem State.memReads_setPins (s : State) (ps : List PinSample) (i : Instr) :
    (s.setPins ps).memReads i = s.memReads i := by
  cases i <;> rfl

/-- Of the pins, the host's two answers alone decide on a hold (R30). -/
theorem State.stalled_setPins (s : State) (ps : List PinSample) (i : Instr) :
    (s.setPins ps).stalled i = ((s.memReq i && !(s.setPins ps).pinsNow.memAck) ||
      (s.recValid i && !(s.setPins ps).pinsNow.recReady)) := by
  rw [State.stalled, State.memReq, State.recValid, State.memReads_setPins, State.recOffered_setPins]
  rfl

/-- While busy, the pins do not change what the coming step runs (R180, R234). -/
theorem State.select_setPins_of_busy {s : State} (h : s.busy = true) (ps : List PinSample) :
    (s.setPins ps).select = s.select := by
  rw [State.select, State.select, State.selector_of_busy h, State.selector_of_busy (s := s.setPins ps) h]
  rfl

/-- Settles O55: neither the operation a busy state selects (`State.select_setPins_of_busy`) nor the hold of its step
(`State.stalled_setPins`) depends on `start` and `buf_len`, and the step uses the sample up. -/
theorem startAndLengthIgnoredWhileBusy : Obligations.StartAndLengthIgnoredWhileBusy := by
  unfold Obligations.StartAndLengthIgnoredWhileBusy
  intro s q rest st n hbusy
  change step (s.setPins ({ q with start := st, bufLen := n } :: rest)) = step (s.setPins (q :: rest))
  simp only [step, State.select_setPins_of_busy hbusy, State.stalled_setPins]
  rfl

end Sys2Proof.Machine
end

section
/-! The codes of the operations (R70-R72, R21, R180). -/

namespace Sys2Proof

/-- R71: the range of FILLER_FFFF. -/
theorem classify_eq_fillerFfff_iff (w : Half) : classify w = .fillerFfff ↔ w.toNat = 0xFFFF := by
  unfold classify
  split_ifs with hfill hffff hsof0 hsof3 <;> simp <;> bv_omega

/-- R71: the range of SOF0. -/
theorem classify_eq_sof0_iff (w : Half) : classify w = .sof0 ↔ w.toNat = 0xFFC0 := by
  unfold classify
  split_ifs with hfill hffff hsof0 hsof3 <;> simp <;> bv_omega

/-- R71: the range of SOF3. -/
theorem classify_eq_sof3_iff (w : Half) : classify w = .sof3 ↔ w.toNat = 0xFFC3 := by
  unfold classify
  split_ifs with hfill hffff hsof0 hsof3 <;> simp <;> bv_omega

/-- R71: the range of OTHER_MARKER. -/
theorem classify_eq_otherMarker_iff (w : Half) : classify w = .otherMarker ↔
    0xFF02 ≤ w.toNat ∧ w.toNat ≤ 0xFFFE ∧ w.toNat ≠ 0xFFC0 ∧ w.toNat ≠ 0xFFC3 := by
  unfold classify
  split_ifs with hfill hffff hsof0 hsof3 <;> simp <;> bv_omega

/-- A marker word selects the operation of its class. -/
theorem decodeMarker_eq_iff (w : Half) :
    (decodeMarker w = .filler w ↔ classify w = .filler) ∧
    (decodeMarker w = .fillerFfff ↔ classify w = .fillerFfff) ∧
    (decodeMarker w = .sof0 ↔ classify w = .sof0) ∧
    (decodeMarker w = .sof3 ↔ classify w = .sof3) ∧
    (decodeMarker w = .otherMarker w ↔ classify w = .otherMarker) := by
  unfold decodeMarker
  cases classify w <;> simp

/-- Settles O4: the operation follows the class (`decodeMarker_eq_iff`), and each class has its range. -/
theorem markerWordsSelectByRange : Obligations.MarkerWordsSelectByRange := by
  unfold Obligations.MarkerWordsSelectByRange
  intro w
  obtain ⟨hfill, hffff, hsof0, hsof3, hother⟩ := decodeMarker_eq_iff w
  rw [hfill, hffff, hsof0, hsof3, hother, classify_eq_filler_iff, classify_eq_fillerFfff_iff,
    classify_eq_sof0_iff, classify_eq_sof3_iff, classify_eq_otherMarker_iff]
  exact ⟨.rfl, .rfl, .rfl, .rfl, .rfl⟩

/-- The words of FILLER that `wellFormed` admits are those of the class. -/
theorem isFillerWord_iff (w : Half) : isFillerWord w = true ↔ classify w = .filler := by
  rw [classify_eq_filler_iff, isFillerWord, decide_eq_true_eq]

/-- The words of OTHER_MARKER that `wellFormed` admits are those of the class. -/
theorem isOtherMarkerWord_iff (w : Half) : isOtherMarkerWord w = true ↔ classify w = .otherMarker := by
  rw [classify_eq_otherMarker_iff]
  simp [isOtherMarkerWord, ← BitVec.toNat_inj, and_assoc]

/-- Settles O2: a FILLER or OTHER_MARKER word is of its class, so it selects its own operation; the other codes are
single words, single `STATE` codes, or the start command. -/
theorem encodedOperationDecodesBack : Obligations.EncodedOperationDecodesBack := by
  unfold Obligations.EncodedOperationDecodesBack
  intro c i e hwf he
  cases i with
  | filler w =>
    cases he
    exact congrArg _ ((decodeMarker_eq_iff w).1.mpr ((isFillerWord_iff w).mp hwf))
  | otherMarker w =>
    cases he
    obtain ⟨-, -, -, -, hother⟩ := decodeMarker_eq_iff w
    exact congrArg _ (hother.mpr ((isOtherMarkerWord_iff w).mp hwf))
  | fillerFfff | sof0 | sof3 | start | soi | scan | dMark | dLf | dP | dY | dX | dNf | dCi | dHv | dTq =>
    cases he
    rfl
  | peek1 | peek2 | read1 | read2 | advance | hasNext | hasLookahead => cases he

/-- A marker word is the code of the operation it selects, which is well formed (R70). -/
theorem encode_decodeMarker (w : Half) :
    encode (decodeMarker w) = some (.markerWord w) ∧ ∀ c : Config, (decodeMarker w).wellFormed c = true := by
  unfold decodeMarker
  cases hw : classify w with
  | filler => exact ⟨rfl, fun _ => (isFillerWord_iff w).mpr hw⟩
  | otherMarker => exact ⟨rfl, fun _ => (isOtherMarkerWord_iff w).mpr hw⟩
  | fillerFfff =>
    obtain rfl : w = 0xFFFF#16 := BitVec.eq_of_toNat_eq ((classify_eq_fillerFfff_iff w).mp hw)
    exact ⟨rfl, fun _ => rfl⟩
  | sof0 =>
    obtain rfl : w = 0xFFC0#16 := BitVec.eq_of_toNat_eq ((classify_eq_sof0_iff w).mp hw)
    exact ⟨rfl, fun _ => rfl⟩
  | sof3 =>
    obtain rfl : w = 0xFFC3#16 := BitVec.eq_of_toNat_eq ((classify_eq_sof3_iff w).mp hw)
    exact ⟨rfl, fun _ => rfl⟩

/-- A word is the word of its number. -/
theorem eq_ofNat_of_toNat_eq {w n : Nat} {v : BitVec w} (h : v.toNat = n) : v = BitVec.ofNat w n := by
  rw [← h, BitVec.ofNat_toNat, BitVec.setWidth_eq]

/-- A `STATE` code that selects a step is the code of that step (R21). -/
theorem encode_of_decodeFsm {code : BitVec 4} {i : Instr} (h : decodeFsm code = .ok i) :
    encode i = some (.fsmState code) ∧ ∀ c : Config, i.wellFormed c = true := by
  unfold decodeFsm at h
  split at h <;> cases h
  all_goals
    next hcode =>
    obtain rfl := eq_ofNat_of_toNat_eq hcode
    exact ⟨rfl, fun _ => rfl⟩

/-- Settles O3: a marker word by `encode_decodeMarker`, a `STATE` code by `encode_of_decodeFsm`; a start command carries
its length. -/
theorem decodedOperationEncodesBack : Obligations.DecodedOperationEncodesBack := by
  unfold Obligations.DecodedOperationEncodesBack
  intro e i h
  cases e with
  | markerWord w =>
    cases h
    exact ⟨(encode_decodeMarker w).1, fun c _ => (encode_decodeMarker w).2 c⟩
  | fsmState code => exact ⟨(encode_of_decodeFsm h).1, fun c _ => (encode_of_decodeFsm h).2 c⟩
  | command start n =>
    cases start <;> cases h
    exact ⟨rfl, fun c hn => decide_eq_true (hn n rfl)⟩

/-- Settles O1: each code is a closed word, and the decoder computes on it; 0xFF01 and 0xFF02 are the last word of
FILLER and the first of OTHER_MARKER. -/
theorem specCodesDecode : Obligations.SpecCodesDecode := by
  unfold Obligations.SpecCodesDecode
  exact ⟨rfl, rfl, rfl, rfl, rfl, rfl, rfl, rfl, rfl, rfl⟩

end Sys2Proof
end

section
/-! The codes of records and registers read back (R21, R26, R27, R31, R81). -/

namespace Sys2Proof.Machine

/-- R26: a label is read back from its code. -/
@[simp] theorem Kind.ofCode_code (kd : Kind) : Kind.ofCode kd.code = kd := by
  cases kd <;> rfl

/-- R21: a state is read back from its code. -/
@[simp] theorem Fsm.ofCode_code (f : Fsm) : Fsm.ofCode f.code = some f := by
  cases f <;> rfl

/-- R80: a field is read back from its identifier. -/
@[simp] theorem FieldName.ofId_id (f : FieldName) : FieldName.ofId f.id = some f := by
  cases f <;> rfl

/-- A record is read off its 48 bits. -/
theorem Record.parse_toBits (r : Record) : Record.parse r.toBits = some r := by
  obtain ⟨hframe, hfield, -⟩ := recordWordLayout
  cases r with
  | frameBegin mk kd =>
    obtain ⟨htag, -, hkind, -, hmk⟩ := hframe mk kd
    rw [Record.parse, if_pos htag, hkind, hmk, Kind.ofCode_code]
  | field f j wd v =>
    obtain ⟨htag, hid, hj, hwd, -, hv⟩ := hfield f j wd v
    have hne : (Record.field f j wd v).toBits.extractLsb' 44 4 ≠ 0#4 := by
      rw [htag]
      decide
    simp only [Record.parse, if_neg hne, hid, FieldName.ofId_id, hj, hwd, hv]

/-- Bits show a record exactly when they are its bits. -/
theorem Record.ofBits_eq_some_iff (w : BitVec 48) (r : Record) : Record.ofBits w = some r ↔ r.toBits = w := by
  constructor
  · intro h
    unfold Record.ofBits at h
    split at h
    · split at h
      · next hbits =>
        cases h
        exact hbits
      · cases h
    · cases h
  · rintro rfl
    rw [Record.ofBits, Record.parse_toBits]
    exact if_pos rfl

/-- A record has tag 0, or tag 1 and a field identifier up to 8 (R81). -/
theorem Record.toBits_tag (r : Record) :
    (r.toBits.extractLsb' 44 4).toNat = 0 ∨
      (r.toBits.extractLsb' 44 4).toNat = 1 ∧ (r.toBits.extractLsb' 40 4).toNat ≤ 8 := by
  obtain ⟨hframe, hfield, hid, -⟩ := recordWordLayout
  cases r with
  | frameBegin mk kd =>
    obtain ⟨htag, -⟩ := hframe mk kd
    rw [htag]
    exact .inl rfl
  | field f j wd v =>
    obtain ⟨htag, hname, -⟩ := hfield f j wd v
    rw [htag, hname]
    exact .inr ⟨rfl, (hid f).1⟩

/-- Bits no record has show none. -/
theorem Record.ofBits_eq_none {w : BitVec 48} (h : ∀ r : Record, r.toBits ≠ w) : Record.ofBits w = none :=
  Option.eq_none_iff_forall_ne_some.mpr fun r hr => h r ((Record.ofBits_eq_some_iff w r).mp hr)

/-- Settles O7: bits show a record exactly when they are its bits (`Record.ofBits_eq_some_iff`), and no record has the
reserved tags and identifiers (`Record.toBits_tag`). -/
theorem recordWordsReadBack : Obligations.RecordWordsReadBack := by
  unfold Obligations.RecordWordsReadBack
  refine ⟨fun r => (Record.ofBits_eq_some_iff _ r).mpr rfl, fun w htag => ?_, fun w htag hid => ?_⟩
  · refine Record.ofBits_eq_none ?_
    rintro r rfl
    obtain h | ⟨h, -⟩ := r.toBits_tag <;> omega
  · refine Record.ofBits_eq_none ?_
    rintro r rfl
    obtain h | ⟨-, h⟩ := r.toBits_tag <;> omega

/-- R21: the numbers of the states. -/
theorem Fsm.code_numbers (f : Fsm) :
    (f.code.toNat = 0 ↔ f = .idle) ∧ (f.code.toNat = 1 ↔ f = .soi) ∧ (f.code.toNat = 2 ↔ f = .scan) ∧
      (f.code.toNat = 3 ↔ f = .dMark) ∧ (f.code.toNat = 4 ↔ f = .dLf) ∧ (f.code.toNat = 5 ↔ f = .dP) ∧
      (f.code.toNat = 6 ↔ f = .dY) ∧ (f.code.toNat = 7 ↔ f = .dX) ∧ (f.code.toNat = 8 ↔ f = .dNf) ∧
      (f.code.toNat = 9 ↔ f = .dCi) ∧ (f.code.toNat = 10 ↔ f = .dHv) ∧ (f.code.toNat = 11 ↔ f = .dTq) ∧
      (f.code.toNat = 12 ↔ f = .done) ∧ (f.code.toNat = 13 ↔ f = .error) := by
  cases f <;> decide

/-- R26: the numbers of the labels. -/
theorem Kind.code_numbers (kd : Kind) :
    (kd.code.toNat = 0 ↔ kd = .none) ∧ (kd.code.toNat = 1 ↔ kd = .lossy) ∧
      (kd.code.toNat = 2 ↔ kd = .lossless) ∧ (kd.code.toNat = 3 ↔ kd = .unimpl) := by
  cases kd <;> decide

/-- R27, R200: the numbers of the errors. -/
theorem ErrCode.code_numbers (e : ErrCode) :
    (e.code.toNat = 0 ↔ e = .none) ∧ (e.code.toNat = 1 ↔ e = .invalidSoi) ∧ (e.code.toNat = 2 ↔ e = .readOor) := by
  cases e <;> decide

/-- R31: `busy` is high outside the idle states. -/
theorem State.busy_iff (s : State) : s.busy = true ↔ s.fsm ≠ .idle ∧ s.fsm ≠ .done ∧ s.fsm ≠ .error := by
  rw [State.busy, Bool.not_eq_true', Bool.eq_false_iff, ne_eq, Fsm.isIdle_iff, not_or, not_or]

/-- Settles O8: each output is a function of one register, whose codes have the numbers of R21, R26 and R27. -/
theorem statusOutputsShowTheState : Obligations.StatusOutputsShowTheState := by
  unfold Obligations.StatusOutputsShowTheState
  intro s
  obtain ⟨hnone, hsoi, hoor⟩ := s.err.code_numbers
  refine ⟨s.busy_iff, decide_eq_true_iff, decide_eq_true_iff, ⟨s.fsm.ofCode_code, s.kind.ofCode_code⟩,
    s.fsm.code_numbers, s.kind.code_numbers, hnone, hsoi, hoor, fun hpos => ?_⟩
  rw [State.posOut, BitVec.toNat_ofNat, Nat.mod_eq_of_lt hpos]

end Sys2Proof.Machine
end

section
/-! The buffer: a loaded file, and the bytes an operation asks for (R50-R56, R232). -/

namespace Sys2Proof.Machine

/-- Writing bytes from `a` on leaves the addresses below `a` as they are. -/
theorem Mem.read_writeAll_of_lt (bs : List Byte) {m : List Host.Cell} {a x : Nat} (hw : Mem.wf m = true)
    (hx : x < a) : Mem.read (Mem.writeAll m a bs) x = Mem.read m x := by
  induction bs generalizing m a with
  | nil => rfl
  | cons b bs ih =>
    rw [Mem.writeAll, ih (Mem.wf_write m a b hw) (Nat.lt_succ_of_lt hx), Mem.read_write m a b hw,
      if_neg (Nat.ne_of_lt hx)]

/-- Bytes written from `a` on read back in order. -/
theorem Mem.read_writeAll_add (bs : List Byte) {m : List Host.Cell} {a i : Nat} (hw : Mem.wf m = true)
    (hi : i < bs.length) : Mem.read (Mem.writeAll m a bs) (a + i) = bs[i] := by
  induction bs generalizing m a i with
  | nil => simp at hi
  | cons b bs ih =>
    rw [Mem.writeAll]
    cases i with
    | zero =>
      rw [Nat.add_zero a, Mem.read_writeAll_of_lt bs (Mem.wf_write m a b hw) (Nat.lt_add_one a),
        Mem.read_write m a b hw, if_pos rfl, List.getElem_cons_zero]
    | succ i =>
      rw [← Nat.add_assoc, Nat.add_right_comm, ih (Mem.wf_write m a b hw) (Nat.lt_of_succ_lt_succ hi),
        List.getElem_cons_succ]

/-- Settles O9: the file is written from offset 0 on (`Mem.read_writeAll_add`). -/
theorem loadedFileReadsBack : Obligations.LoadedFileReadsBack := by
  unfold Obligations.LoadedFileReadsBack
  intro s file a h
  simpa using Mem.read_writeAll_add (m := []) (a := 0) file rfl h

/-- PEEK1 asks for its own address, inside the buffer (R100). -/
theorem State.mem_peek1Reads {s : State} {p a : Nat} : a ∈ s.peek1Reads p ↔ a = p ∧ p < s.len := by
  unfold State.peek1Reads
  split_ifs with h <;> simp [h]

/-- PEEK2 asks for two addresses, inside its bound (R101). -/
theorem State.mem_peek2Reads {s : State} {p a : Nat} :
    a ∈ s.peek2Reads p ↔ (a = p ∨ a = p + 1) ∧ p + 2 < s.len := by
  unfold State.peek2Reads
  split_ifs with h <;> simp [h]

/-- Every address PEEK1 asks for is inside the buffer. -/
theorem State.lt_of_mem_peek1Reads {s : State} {p a : Nat} (h : a ∈ s.peek1Reads p) : a < s.len := by
  obtain ⟨rfl, hlt⟩ := State.mem_peek1Reads.mp h
  exact hlt

/-- Every address PEEK2 asks for is inside the buffer. -/
theorem State.lt_of_mem_peek2Reads {s : State} {p a : Nat} (h : a ∈ s.peek2Reads p) : a < s.len := by
  obtain ⟨rfl | rfl, hlt⟩ := State.mem_peek2Reads.mp h <;> omega

/-- Settles O11: every operation asks as PEEK1 or PEEK2 does, or for the two bytes of the gate when they are there. -/
theorem memoryRequestsStayInside : Obligations.MemoryRequestsStayInside := by
  unfold Obligations.MemoryRequestsStayInside
  intro s i a h
  cases i with
  | filler | fillerFfff | sof0 | sof3 | otherMarker | start | advance | hasNext | hasLookahead => cases h
  | soi =>
    rw [State.memReads] at h
    split_ifs at h with hlen
    · simp only [List.mem_cons, List.not_mem_nil, or_false] at h
      omega
    · cases h
  | scan =>
    rw [State.memReads] at h
    split_ifs at h
    · exact State.lt_of_mem_peek2Reads h
    · cases h
  | dMark | dLf | dY | dX | peek2 | read2 => exact State.lt_of_mem_peek2Reads h
  | dP | dNf | dCi | dHv | dTq | peek1 | read1 => exact State.lt_of_mem_peek1Reads h

end Sys2Proof.Machine
end

section
/-! The cursor operations run on their own (R100-R106), and the SCAN step in the bytes of the buffer (R121-R128). -/

namespace Sys2Proof.Machine

/-- Settles O13: PEEK1 is defined by cases on its bound (`State.peek1_of_lt`, `State.peek1_of_ge`). -/
theorem peek1ReturnsTheByteOrFaults : Obligations.Peek1ReturnsTheByteOrFaults := by
  unfold Obligations.Peek1ReturnsTheByteOrFaults
  intro s p
  refine ⟨fun hlt => ?_, fun hge => ?_⟩
  · simp only [exec, execPeek1, State.peek1_of_lt hlt]
    rfl
  · simp only [exec, execPeek1, State.peek1_of_ge hge]
    rfl

/-- Settles O14: PEEK2's answer is the value `State.halfAt_peek2` describes. -/
theorem peek2ReturnsTheHalf : Obligations.Peek2ReturnsTheHalf := by
  unfold Obligations.Peek2ReturnsTheHalf
  intro s p
  exact ⟨s.peek2 p, rfl, s.halfAt_peek2 p⟩

/-- Settles O15: READ1 is a one-byte step, inside the buffer or outside it. -/
theorem read1AdvancesByOne : Obligations.Read1AdvancesByOne := by
  unfold Obligations.Read1AdvancesByOne
  intro s
  exact ⟨withRead1_of_lt _, withRead1_of_ge _⟩

/-- Settles O16: READ2 answers PEEK2's value at the old `POS`. -/
theorem read2AdvancesByTwo : Obligations.Read2AdvancesByTwo := by
  unfold Obligations.Read2AdvancesByTwo
  intro s
  exact ⟨s.peek2 s.pos, rfl, s.halfAt_peek2 s.pos⟩

/-- The guard evaluates the comparison of R105. -/
theorem State.hasNext_iff (s : State) : s.hasNext = true ↔ s.GuardHolds := by
  unfold State.GuardHolds
  cases hb : s.cfg.hasNextBound with
  | le => simp [State.hasNext_le hb]
  | lt => simp [State.hasNext_lt hb]

/-- Settles O18: outside `POS` = 0 HASNEXT answers its guard (`State.hasNext_iff`). -/
theorem hasNextComparesPosition : Obligations.HasNextComparesPosition := by
  unfold Obligations.HasNextComparesPosition
  intro s hpos
  exact ⟨s.hasNext, if_pos (decide_eq_true hpos), s.hasNext_iff⟩

/-- Settles O19: at `POS` = 0 both operations take the branch that refuses. -/
theorem hasNextAtZeroIsRefused : Obligations.HasNextAtZeroIsRefused := by
  unfold Obligations.HasNextAtZeroIsRefused
  intro s hpos
  have hundef : ¬ s.hasNextDefined = true := by simpa [State.hasNextDefined] using hpos
  exact ⟨if_neg hundef, if_neg hundef⟩

/-- R106: the lookahead guard, without the subtraction. -/
theorem State.hasLookahead_iff (s : State) : s.hasLookahead = true ↔ s.pos ≤ 10 ∨ s.pos < s.len + 10 := by
  rw [State.hasLookahead, Bool.or_eq_true, decide_eq_true_eq, decide_eq_true_eq]
  omega

/-- Settles O20: HASLOOKAHEAD answers its guard (`State.hasLookahead_iff`). -/
theorem hasLookaheadComparesPosition : Obligations.HasLookaheadComparesPosition := by
  unfold Obligations.HasLookaheadComparesPosition
  intro s
  exact ⟨s.hasLookahead, rfl, s.hasLookahead_iff⟩

/-- The number of the marker word FF `b`. -/
theorem toNat_marker (b : Byte) : (0xFF#8 ++ b).toNat = 0xFF * 256 + b.toNat := by
  rw [BitVec.toNat_append, ← Nat.shiftLeft_add_eq_or_of_lt (BitVec.isLt _), Nat.shiftLeft_eq]
  rfl

/-- PEEK2 answers the word FF `b` exactly where both bytes are seen inside its bound, past which it answers 0. -/
theorem State.seesMarker_iff (s : State) (b : Byte) : s.SeesMarker b ↔ s.peek2 s.pos = 0xFF#8 ++ b := by
  obtain ⟨hin, hout⟩ := s.halfAt_peek2 s.pos
  simp only [State.SeesMarker, ← BitVec.toNat_inj, toNat_marker]
  have hb := b.isLt
  have hlo := (Mem.read s.buf (s.pos + 1)).isLt
  have hff : (0xFF#8).toNat = 0xFF := rfl
  obtain hlt | hge := Nat.lt_or_ge (s.pos + 2) s.len
  · rw [hin hlt]
    omega
  · rw [hout hge]
    omega

section Scan

variable {s : State} (hpos : s.pos ≠ 0)
include hpos

/-- Where the guard is false the SCAN step ends the run (R127). -/
theorem exec_scan_of_end (hend : ¬ s.hasNext = true) : exec .scan s = .next (s.setFsm .done) := by
  obtain ⟨t, ht⟩ := exists_execScan hpos
  obtain ⟨-, ⟨-, rfl⟩ | ⟨hnext, -⟩ | ⟨hnext, -⟩⟩ := execScan_cases ht
  · exact ht
  · exact absurd hnext hend
  · exact absurd hnext hend

variable (hnext : s.hasNext = true)
include hnext

/-- At a frame marker the SCAN step enters the decoder (R124, R125). -/
theorem exec_scan_of_mark (hmark : s.peek2 s.pos = 0xFFC0#16 ∨ s.peek2 s.pos = 0xFFC3#16) :
    exec .scan s = .next (s.setFsm .dMark) := by
  obtain ⟨t, ht⟩ := exists_execScan hpos
  obtain ⟨-, ⟨hend, -⟩ | ⟨-, hnot0, hnot3, -⟩ | ⟨-, -, rfl⟩⟩ := execScan_cases ht
  · simp [hnext] at hend
  · exact (hmark.elim hnot0 hnot3).elim
  · exact ht

/-- At any other word the SCAN step skips a byte (R122, R123, R126). -/
theorem exec_scan_of_skip (hnot : ¬ (s.peek2 s.pos = 0xFFC0#16 ∨ s.peek2 s.pos = 0xFFC3#16)) :
    exec .scan s = .next s.advance := by
  obtain ⟨t, ht⟩ := exists_execScan hpos
  obtain ⟨-, ⟨hend, -⟩ | ⟨-, -, -, rfl⟩ | ⟨-, hmark, -⟩⟩ := execScan_cases ht
  · simp [hnext] at hend
  · exact ht
  · exact absurd hmark hnot

end Scan

/-- Settles O23: the guard (`State.hasNext_iff`) and the bytes (`State.seesMarker_iff`) say which of the three things the
SCAN step does. -/
theorem scanStepFollowsTheBytes : Obligations.ScanStepFollowsTheBytes := by
  unfold Obligations.ScanStepFollowsTheBytes
  intro s hpos
  rw [← State.hasNext_iff, State.seesMarker_iff, State.seesMarker_iff]
  exact ⟨exec_scan_of_end hpos, exec_scan_of_mark hpos, exec_scan_of_skip hpos⟩

end Sys2Proof.Machine
end

section
/-! What an operation leaves unchanged (R8, R23). -/

namespace Sys2Proof.Machine

/-- A statement about every register is one about each of the sixteen of R20. -/
theorem Reg.forall_iff {P : Reg → Prop} : (∀ r, P r) ↔
    (P .state ∧ P .pos ∧ P .l ∧ P .lf ∧ P .p ∧ P .y ∧ P .x ∧ P .nf) ∧
      P .k ∧ P .ci ∧ P .hi ∧ P .vi ∧ P .tq ∧ P .kind ∧ P .err ∧ P .out := by
  refine ⟨fun h => by simp only [h, and_self], ?_⟩
  rintro ⟨⟨_, _, _, _, _, _, _, _⟩, _, _, _, _, _, _, _, _⟩ r
  cases r <;> assumption

/-- Outside `written` no register changes, and neither the buffer nor the parameters nor the coming samples do. -/
structure Keeps (written : List Reg) (s t : State) : Prop where
  regs : ∀ r : Reg, r ∉ written → r.Same s t
  buf : t.buf = s.buf
  cfg : t.cfg = s.cfg
  pins : t.pins = s.pins

/-- What keeps the buffer keeps every byte of it. -/
theorem Keeps.frame {written : List Reg} {s t : State} (h : Keeps written s t) : Frame written s t :=
  ⟨h.regs, fun a => by rw [h.buf], h.cfg, h.pins⟩

/-- Nothing changes. -/
theorem Keeps.refl (written : List Reg) (s : State) : Keeps written s s :=
  ⟨fun r _ => by cases r <;> rfl, rfl, rfl, rfl⟩

/-- Fault entry writes `ERR` and `STATE` (R205). -/
theorem keeps_raise {written : List Reg} (s : State) (e : ErrCode) (hstate : .state ∈ written)
    (herr : .err ∈ written) : Keeps written s (s.raise e) :=
  ⟨by simp [Reg.forall_iff, Reg.Same, hstate, herr], rfl, rfl, rfl⟩

/-- A one-byte step keeps what its use of the byte keeps and its fault entry does not write. -/
theorem withRead1_keeps {written : List Reg} {s t : State} {g : Byte → State → State}
    (h : withRead1 s g = .next t) (hstate : .state ∈ written) (herr : .err ∈ written)
    (hg : ∀ v, Keeps written s (g v (s.setPos (s.pos + 1)))) : Keeps written s t := by
  obtain ⟨-, rfl⟩ | ⟨-, rfl⟩ := withRead1_cases h
  · exact hg _
  · exact keeps_raise s .readOor hstate herr

/-- The end of D_TQ writes `K` and `STATE`. -/
theorem Keeps.nextComponent {written : List Reg} {s t : State} (h : Keeps written s t) (hstate : .state ∈ written)
    (hk : .k ∈ written) : Keeps written s t.nextComponent := by
  obtain ⟨hregs, hbuf, hcfg, hpins⟩ := h
  rw [Reg.forall_iff] at hregs
  obtain ⟨-, heq⟩ | ⟨-, heq⟩ := t.nextComponent_cases <;> rw [heq] <;>
    exact ⟨by simpa [Reg.forall_iff, Reg.Same, hstate, hk] using hregs, hbuf, hcfg, hpins⟩

/-- Every operation keeps what its rule and its fault entry do not name. -/
theorem exec_keeps {i : Instr} {s t : State} (h : exec i s = .next t) : Keeps (writtenBy i) s t := by
  cases i with
  | filler | fillerFfff | sof0 | sof3 | otherMarker | peek2 | read2 | advance | hasLookahead
  | dMark | dLf | dY | dX =>
    cases h
    exact ⟨by simp [Reg.forall_iff, Reg.Same, writtenBy], rfl, rfl, rfl⟩
  | start n =>
    obtain ⟨-, rfl⟩ | ⟨-, rfl⟩ := execStart_cases h
    · exact ⟨by simp [Reg.forall_iff, Reg.Same, writtenBy], rfl, rfl, rfl⟩
    · exact .refl _ _
  | soi =>
    obtain ⟨-, rfl⟩ | ⟨-, rfl⟩ := execSoi_cases h
    · exact ⟨by simp [Reg.forall_iff, Reg.Same, writtenBy], rfl, rfl, rfl⟩
    · exact keeps_raise s .invalidSoi (by simp [writtenBy]) (by simp [writtenBy])
  | scan =>
    obtain ⟨-, ⟨-, rfl⟩ | ⟨-, -, -, rfl⟩ | ⟨-, -, rfl⟩⟩ := execScan_cases h <;>
      exact ⟨by simp [Reg.forall_iff, Reg.Same, writtenBy], rfl, rfl, rfl⟩
  | peek1 p =>
    obtain ⟨-, rfl⟩ | ⟨-, rfl⟩ := execPeek1_cases h
    · exact ⟨by simp [Reg.forall_iff, Reg.Same, writtenBy], rfl, rfl, rfl⟩
    · exact keeps_raise s .readOor (by simp [writtenBy]) (by simp [writtenBy])
  | hasNext =>
    obtain ⟨-, rfl⟩ := execHasNext_cases h
    exact ⟨by simp [Reg.forall_iff, Reg.Same, writtenBy], rfl, rfl, rfl⟩
  | dP | dNf | dCi | dHv | read1 =>
    exact withRead1_keeps h (by simp [writtenBy]) (by simp [writtenBy]) fun v =>
      ⟨by simp [Reg.forall_iff, Reg.Same, writtenBy], rfl, rfl, rfl⟩
  | dTq =>
    refine withRead1_keeps h (by simp [writtenBy]) (by simp [writtenBy]) fun v =>
      Keeps.nextComponent ?_ (by simp [writtenBy]) (by simp [writtenBy])
    exact ⟨by simp [Reg.forall_iff, Reg.Same, writtenBy], rfl, rfl, rfl⟩

/-- A one-byte step keeps `ret` if its use of the byte does. -/
theorem withRead1_ret {s t : State} {g : Byte → State → State} (h : withRead1 s g = .next t)
    (hg : ∀ v, (g v (s.setPos (s.pos + 1))).ret = s.ret) : t.ret = s.ret := by
  obtain ⟨-, rfl⟩ | ⟨-, rfl⟩ := withRead1_cases h
  · exact hg _
  · rfl

/-- A cursor operation alone hands a value back (log 6). -/
theorem exec_ret {i : Instr} {s t : State} (h : exec i s = .next t) (hi : cursorOperation i = false) :
    t.ret = s.ret := by
  cases i with
  | peek1 | peek2 | read1 | read2 | advance | hasNext | hasLookahead => cases hi
  | filler | fillerFfff | sof0 | sof3 | otherMarker | dMark | dLf | dY | dX =>
    cases h
    rfl
  | start n => obtain ⟨-, rfl⟩ | ⟨-, rfl⟩ := execStart_cases h <;> rfl
  | soi => obtain ⟨-, rfl⟩ | ⟨-, rfl⟩ := execSoi_cases h <;> rfl
  | scan => obtain ⟨-, ⟨-, rfl⟩ | ⟨-, -, -, rfl⟩ | ⟨-, -, rfl⟩⟩ := execScan_cases h <;> rfl
  | dP | dNf | dCi | dHv => exact withRead1_ret h fun _ => rfl
  | dTq =>
    refine withRead1_ret h fun v => ?_
    obtain ⟨-, heq⟩ | ⟨-, heq⟩ := State.nextComponent_cases (((s.setPos (s.pos + 1)).setTq v).emitField .tqi s.k v) <;>
      exact (congrArg State.ret heq).trans rfl

/-- Settles O51: the frame is that of `exec_keeps`, and `ret` is kept by `exec_ret`. -/
theorem operationsWriteOnlyTheirRegisters : Obligations.OperationsWriteOnlyTheirRegisters := by
  unfold Obligations.OperationsWriteOnlyTheirRegisters
  intro i s t h
  exact ⟨(exec_keeps h).frame, exec_ret h⟩

/-- A step is a reset, a step that only uses up its sample, or the operation selected (R9, R230, R233). -/
theorem step_cases {s t : State} (h : step s = .next t) :
    t = s.popPins.resetBlock ∨ t = s.popPins ∨ ∃ i, s.select = some i ∧ exec i s.popPins = .next t := by
  unfold step at h
  split_ifs at h
  · cases h
    exact .inl rfl
  · split at h
    · cases h
      exact .inr (.inl rfl)
    · next i hsel =>
      split_ifs at h
      · cases h
        exact .inr (.inl rfl)
      · exact .inr (.inr ⟨i, hsel, h⟩)

/-- No step writes the buffer or the parameters. -/
theorem step_keeps_buf_cfg {s t : State} (h : step s = .next t) : t.buf = s.buf ∧ t.cfg = s.cfg := by
  obtain rfl | rfl | ⟨i, -, hexec⟩ := step_cases h
  · exact ⟨rfl, rfl⟩
  · exact ⟨rfl, rfl⟩
  · exact ⟨(exec_keeps hexec).buf, (exec_keeps hexec).cfg⟩

/-- Settles O10: the buffer as a whole is kept. -/
theorem bufferIsNeverWritten : Obligations.BufferIsNeverWritten := by
  unfold Obligations.BufferIsNeverWritten
  refine ⟨fun i s t a h => ?_, fun s t a h => ?_⟩
  · rw [(exec_keeps h).buf]
  · rw [(step_keeps_buf_cfg h).1]

/-- `L` is written by START alone (R23). -/
theorem l_not_mem_writtenBy {i : Instr} (hi : ∀ n : Nat, i ≠ .start n) : Reg.l ∉ writtenBy i := by
  cases i with
  | start n => exact absurd rfl (hi n)
  | _ => simp [writtenBy]

/-- Settles O50: `L` is outside the frame of every operation but START (`l_not_mem_writtenBy`), the parameters outside
that of every operation and step. -/
theorem lengthAndParametersStay : Obligations.LengthAndParametersStay := by
  unfold Obligations.LengthAndParametersStay
  exact ⟨fun i s t h hi => (exec_keeps h).regs .l (l_not_mem_writtenBy hi), fun i s t h => (exec_keeps h).cfg,
    fun s t h => (step_keeps_buf_cfg h).2⟩

end Sys2Proof.Machine
end

section
/-! The operation a step runs, and its hold (R9, R30, R180, R230, R233). -/

namespace Sys2Proof.Machine

/-- A code that decodes selects its operation. -/
theorem State.select_of_decode {s : State} {i : Instr} (h : decode s.selector = .ok i) : s.select = some i := by
  rw [State.select, h]

/-- Without reset a step runs the operation selected, unless it is held up. -/
theorem step_of_select {s : State} {i : Instr} (hrst : s.pinsNow.rst = false) (hsel : s.select = some i) :
    step s = if s.stalled i then .next s.popPins else exec i s.popPins := by
  simp [step, hrst, hsel]

/-- A step held up only uses up its sample. -/
theorem step_of_stalled {s : State} {i : Instr} (hrst : s.pinsNow.rst = false) (hsel : s.select = some i)
    (hstall : s.stalled i = true) : step s = .next s.popPins := by
  rw [step_of_select hrst hsel, if_pos hstall]

/-- Settles O52, by `step_of_select`. -/
theorem stepRunsTheDecodedOperation : Obligations.StepRunsTheDecodedOperation := by
  unfold Obligations.StepRunsTheDecodedOperation
  intro s i hrst hdec
  have hsel := State.select_of_decode hdec
  refine ⟨fun hgo => ?_, step_of_stalled hrst hsel⟩
  rw [step_of_select hrst hsel, if_neg (by simp [hgo])]
  rfl

/-- A busy state whose code decodes selects that step, whatever the pins show. -/
theorem State.select_of_fsm {s : State} {f : Fsm} {i : Instr} (hfsm : s.fsm = f) (hbusy : f.isIdle = false)
    (hi : decodeFsm f.code = .ok i) : s.select = some i := by
  subst hfsm
  exact State.select_of_decode ((congrArg decode (State.selector_of_busy (by simp [State.busy, hbusy]))).trans hi)

/-- Settles O53: each busy state's code decodes to its step (`State.select_of_fsm`). -/
theorem busyStatesSelectTheirStep : Obligations.BusyStatesSelectTheirStep := by
  unfold Obligations.BusyStatesSelectTheirStep
  intro s
  refine ⟨?_, ?_, ?_, ?_, ?_, ?_, ?_, ?_, ?_, ?_, ?_⟩ <;> exact fun hfsm => State.select_of_fsm hfsm rfl rfl

/-- Settles O54: an unanswered read and an untaken record each hold the step up (`step_of_stalled`). -/
theorem unansweredStepHolds : Obligations.UnansweredStepHolds := by
  unfold Obligations.UnansweredStepHolds
  intro s t i hrst hsel hexec
  refine ⟨fun hack hreads => step_of_stalled hrst hsel ?_, fun hready hmore => step_of_stalled hrst hsel ?_⟩
  · simp [State.stalled, State.memReq, hack, hreads]
  · have hoffer : s.recOffered i ≠ [] := by
      simpa [State.recOffered, hexec, List.drop_eq_nil_iff] using hmore
    simp [State.stalled, State.recValid, hready, hoffer]

/-- START asks for no byte and emits nothing, so the host cannot hold it up. -/
theorem State.stalled_start (s : State) (n : Nat) : s.stalled (.start n) = false := by
  have hoffer : s.recOffered (.start n) = [] := by
    by_cases hidle : s.fsm.isIdle = true
    · simp [State.recOffered, exec_start_eq_beginRun n hidle]
    · simp [State.recOffered, exec_start_eq_self n hidle]
  simp [State.stalled, State.memReq, State.memReads, State.recValid, hoffer]

section Idle

variable {s : State} (hidle : s.fsm = .idle ∨ s.fsm = .done ∨ s.fsm = .error) (hrst : s.pinsNow.rst = false)
include hidle hrst

/-- A start pulse in an idle state runs START. -/
theorem step_of_start (hstart : s.pinsNow.start = true) : step s = exec (.start s.bufLenNow) s.popPins := by
  have hsel : s.select = some (.start s.bufLenNow) :=
    State.select_of_decode (by simp [State.selector, (Fsm.isIdle_iff s.fsm).mpr hidle, hstart, decode])
  rw [step_of_select hrst hsel, State.stalled_start]
  rfl

/-- Without a start pulse an idle state waits. -/
theorem step_of_no_start (hstart : s.pinsNow.start = false) : step s = .next s.popPins := by
  have hcode : decodeFsm s.fsm.code = .error .idleState := by
    obtain h | h | h := hidle <;> rw [h] <;> rfl
  simp [step, hrst, State.select, State.selector, hstart, decode, hcode]

end Idle

/-- A reset sample resets the block, whatever its state (R230). -/
theorem step_of_rst {s : State} (h : s.pinsNow.rst = true) : step s = .next s.popPins.resetBlock := if_pos h

/-- Settles O39, by `step_of_start` and `step_of_no_start`. -/
theorem startPulseRunsTheCommand : Obligations.StartPulseRunsTheCommand := by
  unfold Obligations.StartPulseRunsTheCommand
  intro s hidle hrst
  exact ⟨step_of_start hidle hrst, step_of_no_start hidle hrst⟩

/-- Settles O42: an idle state waits, begins a run or is reset. -/
theorem idleStatesAreLeftOnlyByCommand : Obligations.IdleStatesAreLeftOnlyByCommand := by
  unfold Obligations.IdleStatesAreLeftOnlyByCommand
  intro s hidle
  refine ⟨step_of_no_start hidle, fun hrst hstart => ⟨s.popPins.beginRun s.bufLenNow, ?_, rfl, rfl, rfl⟩,
    fun hrst => ⟨_, step_of_rst hrst, rfl, rfl, rfl⟩⟩
  rw [step_of_start hidle hrst hstart]
  exact exec_start_eq_beginRun _ ((Fsm.isIdle_iff s.fsm).mpr hidle)

/-- Settles O44: the step is the reset transition (`step_of_rst`), which leads to IDLE. -/
theorem resetSampleResetsEveryRegister : Obligations.ResetSampleResetsEveryRegister := by
  unfold Obligations.ResetSampleResetsEveryRegister
  intro s hrst
  refine ⟨step_of_rst hrst, fun t ht => ?_⟩
  rw [step_of_rst hrst] at ht
  cases ht
  exact ⟨rfl, rfl, rfl⟩

end Sys2Proof.Machine
end

section
/-! The invariant (R22, R74, R203, R206). -/

namespace Sys2Proof.Machine

/-- With legal parameters and a buffer in canonical form, the reset state meets the invariant. -/
theorem inv_resetBlock {s : State} (hcfg : s.cfg.Ok) (hwf : Mem.wf s.buf = true) : s.resetBlock.Inv :=
  ⟨hcfg, Nat.two_pow_pos _, hwf, by simp [State.PosOk], by simp [State.ErrOk], by simp [State.LoopOk], by simp [State.KindOk],
    by simp [State.OutOk]⟩

/-- Settles O45: the reset state is the reset transition's result (`inv_resetBlock`). -/
theorem invariantHoldsAtReset : Obligations.InvariantHoldsAtReset := by
  unfold Obligations.InvariantHoldsAtReset
  have hreset (c : Config) (hc : c.Ok) : (State.resetOf c).Inv := inv_resetBlock (s := State.resetOf c) hc rfl
  exact ⟨hreset, hreset Config.default (by decide)⟩

/-- R127: `POS` stands at most one byte past `L`. -/
theorem slack_le_one (c : Config) : slack c ≤ 1 := by
  unfold slack
  split <;> omega

/-- R22: the bounds of the single states together. -/
theorem State.PosOk.le {s : State} (h : s.PosOk) : s.pos ≤ s.len + 4 := by
  have hslack := slack_le_one s.cfg
  cases hfsm : s.fsm <;> simp [State.PosOk, hfsm] at h <;> omega

/-- Settles O47: the bound by cases on `STATE` (`State.PosOk.le`), the width because `LEN_W` is at least 2. -/
theorem positionNeverWraps : Obligations.PositionNeverWraps := by
  unfold Obligations.PositionNeverWraps
  rintro s ⟨hcfg, hlen, -, hpos, -⟩
  refine ⟨hpos.le, ?_⟩
  have hfour : 2 ^ 2 ≤ 2 ^ s.cfg.lenW := Nat.pow_le_pow_right (by omega) hcfg
  rw [Config.posW, Nat.pow_succ]
  omega

/-- A step runs START on a length the port carries, or the step `STATE` names. -/
theorem State.select_cases {s : State} {i : Instr} (h : s.select = some i) :
    (s.fsm.isIdle = true ∧ i = .start s.bufLenNow) ∨ decodeFsm s.fsm.code = .ok i := by
  unfold State.select State.selector at h
  split_ifs at h with hidle
  · rw [Bool.and_eq_true] at hidle
    exact .inl ⟨hidle.1, by simpa [decode] using h.symm⟩
  · cases hcode : decodeFsm s.fsm.code <;> simp_all [decode]

/-- An operation completes, but for the loop guard at `POS` = 0 (R203). -/
theorem exists_exec {i : Instr} {s : State} (h : s.pos = 0 → i ≠ .scan ∧ i ≠ .hasNext) :
    ∃ t, exec i s = .next t := by
  have hread1 (g : Byte → State → State) : ∃ t, withRead1 s g = .next t := by
    obtain hlt | hge := Nat.lt_or_ge s.pos s.len
    · exact ⟨_, withRead1_of_lt g hlt⟩
    · exact ⟨_, withRead1_of_ge g hge⟩
  cases i with
  | filler | fillerFfff | sof0 | sof3 | otherMarker | peek2 | read2 | advance | hasLookahead
  | dMark | dLf | dY | dX => exact ⟨_, rfl⟩
  | dP | dNf | dCi | dHv | dTq | read1 => exact hread1 _
  | start n =>
    by_cases hidle : s.fsm.isIdle = true
    · exact ⟨_, exec_start_eq_beginRun n hidle⟩
    · exact ⟨_, exec_start_eq_self n hidle⟩
  | soi =>
    by_cases hsoi : s.hasSoi = true
    · exact ⟨_, exec_soi_of_hasSoi hsoi⟩
    · exact ⟨_, exec_soi_of_not_hasSoi hsoi⟩
  | scan => exact exists_execScan fun hzero => (h hzero).1 rfl
  | peek1 p =>
    obtain hlt | hge := Nat.lt_or_ge p s.len
    · exact ⟨_, (peek1ReturnsTheByteOrFaults s p).1 hlt⟩
    · exact ⟨_, (peek1ReturnsTheByteOrFaults s p).2 hge⟩
  | hasNext =>
    obtain ⟨b, hb, -⟩ := hasNextComparesPosition s fun hzero => (h hzero).2 rfl
    exact ⟨_, hb⟩

/-- Settles O48: no state selects HASNEXT, and SCAN is selected at `POS` of at least 2 (`exists_exec`). -/
theorem stepAlwaysGoesOn : Obligations.StepAlwaysGoesOn := by
  unfold Obligations.StepAlwaysGoesOn
  rintro s ⟨-, -, -, hpos, -⟩
  cases hrst : s.pinsNow.rst
  · cases hsel : s.select with
    | none => exact ⟨s.popPins, by simp [step, hrst, hsel]⟩
    | some i =>
      rw [step_of_select hrst hsel]
      split_ifs
      · exact ⟨_, rfl⟩
      · refine exists_exec fun hzero => ?_
        rw [State.popPins_pos] at hzero
        obtain ⟨-, rfl⟩ | hcode := State.select_cases hsel
        · simp
        · cases hfsm : s.fsm <;> rw [hfsm] at hcode <;> cases hcode <;> simp
          simp [State.PosOk, hfsm] at hpos
          omega
  · exact ⟨_, step_of_rst hrst⟩

/-- The guard under either setting: `POS` below `L` and its slack (R105, R127). -/
theorem State.hasNext_iff_slack (s : State) : s.hasNext = true ↔ s.pos < s.len + slack s.cfg := by
  cases hb : s.cfg.hasNextBound with
  | le => simp [State.hasNext_le hb, slack, hb]
  | lt => simp [State.hasNext_lt hb, slack, hb]

/-- A field of its declared width gives a record the block can emit (R80). -/
theorem Record.wf_fieldRecord (name : FieldName) {index : Byte} {w : Nat} (v : BitVec w)
    (hw : w = name.width.toNat) (hi : name.ofComponent = true ∨ index = 0#8) :
    Record.wf (fieldRecord name index v) = true := by
  subst hw
  have hv : (v.setWidth 16).toNat < 2 ^ name.width.toNat := by
    rw [BitVec.toNat_setWidth]
    exact (Nat.mod_le _ _).trans_lt v.isLt
  rw [fieldRecord, Record.wf, decide_eq_true hv]
  simpa using hi

/-- A read outside the buffer leads to a state that meets the invariant (R205). -/
theorem inv_raise_readOor {s : State} (h : s.Inv) (hge : s.len ≤ s.pos) : (s.raise .readOor).Inv := by
  obtain ⟨hcfg, hlen, hwf, hpos, -, -, ⟨hkind, -⟩, -, hout⟩ := h
  have hle := hpos.le
  exact ⟨hcfg, hlen, hwf, by simpa [State.PosOk] using hle, by simpa [State.ErrOk] using hge,
    by simp [State.LoopOk], by simpa [State.KindOk] using hkind, by simpa [State.OutOk] using hout⟩

/-- A one-byte step keeps the invariant if its use of the byte does. -/
theorem withRead1_keeps_inv {s t : State} {g : Byte → State → State} (h : s.Inv) (hexec : withRead1 s g = .next t)
    (hg : s.pos < s.len → (g (Mem.read s.buf s.pos) (s.setPos (s.pos + 1))).Inv) : t.Inv := by
  obtain ⟨hlt, rfl⟩ | ⟨hge, rfl⟩ := withRead1_cases hexec
  · exact hg hlt
  · exact inv_raise_readOor h hge

/-- What a step of the decoder keeps and emits: `t` meets the invariant if its `POS` and `K` do. -/
structure DecodeStep (s t : State) (rs : List Record) : Prop where
  cfg : t.cfg = s.cfg
  len : t.len = s.len
  buf : t.buf = s.buf
  err : t.err = s.err
  out : t.out = s.out ++ rs
  wf : ∀ r ∈ rs, Record.wf r = true
  kind : t.kind = .lossy ∨ t.kind = .lossless
  before : s.fsm ≠ .error
  after : t.fsm ∉ [Fsm.idle, .soi, .error]

/-- A step of the decoder keeps the invariant. -/
theorem inv_of_decodeStep {s t : State} {rs : List Record} (h : s.Inv) (d : DecodeStep s t rs) (hpos : t.PosOk)
    (hloop : t.LoopOk) : t.Inv := by
  obtain ⟨hcfg, hlen, hwf, -, ⟨herr, -⟩, -, -, -, hout⟩ := h
  have hnone : t.err = .none := d.err.trans (herr.mpr d.before)
  have hafter := d.after
  simp only [List.mem_cons, List.not_mem_nil, or_false, not_or] at hafter
  obtain ⟨hidle, hsoi, herror⟩ := hafter
  refine ⟨d.cfg ▸ hcfg, ?_, d.buf ▸ hwf, hpos, by simp [State.ErrOk, hnone, herror], hloop,
    ⟨?_, by simp [hidle, hsoi], fun _ => d.kind⟩, by simp [hidle, hsoi], ?_⟩
  · rw [d.len, d.cfg]
    exact hlen
  · obtain hk | hk := d.kind <;> simp [hk]
  · rw [d.out]
    intro r hr
    exact (List.mem_append.mp hr).elim (hout r) (d.wf r)

/-- The gate leads into the scan at the bytes after it, or to the fault with nothing read (R181). -/
theorem execSoi_keeps_inv {s t : State} (h : s.Inv) (hfsm : s.fsm = .soi) (hexec : execSoi s = .next t) : t.Inv := by
  obtain ⟨hcfg, hlen, hwf, hpos, ⟨herr, -⟩, -, ⟨hkind, -⟩, hout, hrecords⟩ := h
  have hnone : s.err = .none := herr.mpr (by simp [hfsm])
  have hzero : s.pos = 0 := hpos.2.1 hfsm
  have hempty : s.out = [] := hout (by simp [hfsm])
  obtain ⟨hsoi, rfl⟩ | ⟨-, rfl⟩ := execSoi_cases hexec
  · obtain ⟨htwo, -⟩ := (State.hasSoi_iff s).mp hsoi
    exact ⟨hcfg, hlen, hwf, by simp [State.PosOk]; omega, by simp [State.ErrOk, hnone], by simp [State.LoopOk],
      by simpa [State.KindOk] using hkind, by simp [State.OutOk, hempty]⟩
  · exact ⟨hcfg, hlen, hwf, by simp [State.PosOk, hzero], by simp [State.ErrOk, hzero, hempty], by simp [State.LoopOk],
      by simpa [State.KindOk] using hkind, by simp [State.OutOk, hempty]⟩

/-- The SCAN step stays within the slack of its guard, and enters the decoder at a frame marker (R121, R127). -/
theorem execScan_keeps_inv {s t : State} (h : s.Inv) (hfsm : s.fsm = .scan) (hexec : execScan s = .next t) :
    t.Inv := by
  obtain ⟨hcfg, hlen, hwf, hpos, ⟨herr, -⟩, -, ⟨hkind, -⟩, -, hrecords⟩ := h
  have hnone : s.err = .none := herr.mpr (by simp [hfsm])
  obtain ⟨hlo, hhi⟩ : 2 ≤ s.pos ∧ s.pos ≤ s.len + slack s.cfg := hpos.2.2.1 hfsm
  have hguard := s.hasNext_iff_slack
  obtain ⟨-, ⟨hend, rfl⟩ | ⟨hnext, -, -, rfl⟩ | ⟨-, hmark, rfl⟩⟩ := execScan_cases hexec
  · simp only [hend, Bool.false_eq_true, false_iff] at hguard
    exact ⟨hcfg, hlen, hwf, by simp [State.PosOk]; omega, by simp [State.ErrOk, hnone], by simp [State.LoopOk],
      by simpa [State.KindOk] using hkind, by simpa [State.OutOk] using hrecords⟩
  · have hlt := hguard.mp hnext
    exact ⟨hcfg, hlen, hwf, by simp [State.PosOk, hfsm]; omega, by simp [State.ErrOk, hnone, hfsm],
      by simp [State.LoopOk, hfsm], by simpa [State.KindOk, hfsm] using hkind,
      by simpa [State.OutOk, hfsm] using hrecords⟩
  · have hlt : s.pos + 2 < s.len := by
      refine State.lt_of_peek2_ne_zero ?_
      obtain hw | hw := hmark <;> rw [hw] <;> decide
    exact ⟨hcfg, hlen, hwf, by simpa [State.PosOk] using ⟨hlo, hlt, hmark⟩, by simp [State.ErrOk, hnone],
      by simp [State.LoopOk], by simpa [State.KindOk] using hkind, by simpa [State.OutOk] using hrecords⟩

/-- D_MARK reads a frame marker there, so the label is one of two and the record is one of the block's (R141). -/
theorem execDMark_keeps_inv {s t : State} (h : s.Inv) (hfsm : s.fsm = .dMark) (hexec : execDMark s = .next t) :
    t.Inv := by
  have ⟨_, _, _, hpos, _⟩ := h
  simp [State.PosOk, hfsm] at hpos
  obtain ⟨hlo, hhi, hmark⟩ := hpos
  have hrecord : Record.wf (.frameBegin (s.peek2 s.pos) (kindOf (s.peek2 s.pos))) = true := by
    obtain hw | hw := hmark <;> rw [hw] <;> decide
  have hkind : kindOf (s.peek2 s.pos) = .lossy ∨ kindOf (s.peek2 s.pos) = .lossless := by
    obtain hw | hw := hmark <;> rw [hw] <;> decide
  cases hexec
  refine inv_of_decodeStep h (rs := [.frameBegin (s.peek2 s.pos) (kindOf (s.peek2 s.pos))])
    ⟨rfl, rfl, rfl, rfl, rfl, by simpa using hrecord, hkind, by simp [hfsm], by simp⟩ ?_ (by simp [State.LoopOk])
  simp [State.PosOk]
  omega

/-- The end of D_TQ is inside the loop, or behind the segment (R149). -/
theorem execDTq_keeps_inv {s t : State} (h : s.Inv) (hfsm : s.fsm = .dTq) (hexec : execDTq s = .next t) : t.Inv := by
  have ⟨_, _, _, hpos, _, hloop, ⟨_, _, hkind⟩, _⟩ := h
  simp [State.PosOk, hfsm] at hpos
  simp [State.LoopOk, hfsm] at hloop
  simp [hfsm] at hkind
  obtain hlt | hge := Nat.lt_or_ge s.pos s.len
  · have hrecord := Record.wf_fieldRecord .tqi (index := s.k) (Mem.read s.buf s.pos) rfl (.inl rfl)
    by_cases hk : s.k.toNat + 1 = s.nf.toNat
    · cases (exec_dTq_of_last hlt hk).symm.trans hexec
      refine inv_of_decodeStep h
        ⟨rfl, rfl, rfl, rfl, rfl, by simpa using hrecord, hkind, by simp [hfsm], by simp⟩ ?_ (by simp [State.LoopOk])
      simp [State.PosOk]
      omega
    · cases (exec_dTq_of_not_last hlt hk).symm.trans hexec
      refine inv_of_decodeStep h
        ⟨rfl, rfl, rfl, rfl, rfl, by simpa using hrecord, hkind, by simp [hfsm], by simp⟩ ?_ ?_
      · simp [State.PosOk]
        omega
      · have hnf := s.nf.isLt
        simp [State.LoopOk]
        bv_omega
  · cases (withRead1_of_ge _ hge).symm.trans hexec
    exact inv_raise_readOor h hge

/-- The step `STATE` names keeps the invariant: the bounds on `POS` follow one another in the order of the fields
(R141-R149). -/
theorem exec_keeps_inv {i : Instr} {s t : State} (h : s.Inv) (hi : decodeFsm s.fsm.code = .ok i)
    (hexec : exec i s = .next t) : t.Inv := by
  have ⟨_, _, _, hpos, _, hloop, ⟨_, _, hkind⟩, _⟩ := h
  cases hfsm : s.fsm <;> rw [hfsm] at hi <;> cases hi
  case soi => exact execSoi_keeps_inv h hfsm hexec
  case scan => exact execScan_keeps_inv h hfsm hexec
  case dMark => exact execDMark_keeps_inv h hfsm hexec
  case dTq => exact execDTq_keeps_inv h hfsm hexec
  all_goals
    simp [State.PosOk, hfsm] at hpos
    simp [hfsm] at hkind
    simp [State.LoopOk, hfsm] at hloop
  case dLf | dY | dX =>
    cases hexec
    refine inv_of_decodeStep h (rs := [fieldRecord _ 0#8 (s.peek2 s.pos)])
      ⟨rfl, rfl, rfl, rfl, rfl, ?_, hkind, by simp [hfsm], by simp⟩ ?_ (by simp [State.LoopOk])
    · exact List.forall_mem_singleton.mpr (Record.wf_fieldRecord _ _ rfl (.inr rfl))
    · simp [State.PosOk]
      omega
  case dP =>
    refine withRead1_keeps_inv h hexec fun hlt => ?_
    refine inv_of_decodeStep h (rs := [fieldRecord .p 0#8 (Mem.read s.buf s.pos)])
      ⟨rfl, rfl, rfl, rfl, rfl, ?_, hkind, by simp [hfsm], by simp⟩ ?_ (by simp [State.LoopOk])
    · exact List.forall_mem_singleton.mpr (Record.wf_fieldRecord _ _ rfl (.inr rfl))
    · simp [State.PosOk]
      omega
  case dNf =>
    refine withRead1_keeps_inv h hexec fun hlt => ?_
    refine inv_of_decodeStep h (rs := [fieldRecord .nf 0#8 (Mem.read s.buf s.pos)])
      ⟨rfl, rfl, rfl, rfl, rfl, ?_, hkind, by simp [hfsm], ?_⟩ ?_ ?_
    · exact List.forall_mem_singleton.mpr (Record.wf_fieldRecord _ _ rfl (.inr rfl))
    all_goals by_cases hzero : Mem.read s.buf s.pos = 0#8 <;> simp [State.PosOk, State.LoopOk, hzero]
    · omega
    · omega
    · bv_omega
  case dCi =>
    refine withRead1_keeps_inv h hexec fun hlt => ?_
    refine inv_of_decodeStep h (rs := [fieldRecord .ci s.k (Mem.read s.buf s.pos)])
      ⟨rfl, rfl, rfl, rfl, rfl, ?_, hkind, by simp [hfsm], by simp⟩ ?_ (by simpa [State.LoopOk] using hloop)
    · exact List.forall_mem_singleton.mpr (Record.wf_fieldRecord _ _ rfl (.inl rfl))
    · simp [State.PosOk]
      omega
  case dHv =>
    refine withRead1_keeps_inv h hexec fun hlt => ?_
    refine inv_of_decodeStep h (rs := [fieldRecord .hi s.k (topNibble (Mem.read s.buf s.pos)),
        fieldRecord .vi s.k (bottomNibble (Mem.read s.buf s.pos))])
      ⟨rfl, rfl, rfl, rfl, List.append_assoc .., ?_, hkind, by simp [hfsm], by simp⟩ ?_
      (by simpa [State.LoopOk] using hloop)
    · exact List.forall_mem_cons.mpr ⟨Record.wf_fieldRecord _ _ rfl (.inl rfl),
        List.forall_mem_singleton.mpr (Record.wf_fieldRecord _ _ rfl (.inl rfl))⟩
    · simp [State.PosOk]
      omega

/-- Settles O46: a reset or an accepted START begins anew, a step that waits or is held changes no register, and the
step `STATE` names keeps the invariant (`exec_keeps_inv`). -/
theorem stepKeepsInvariant : Obligations.StepKeepsInvariant := by
  unfold Obligations.StepKeepsInvariant
  intro s t h hstep
  have ⟨hcfg, _, hwf, _⟩ := h
  have hpop : s.popPins.Inv := h
  obtain rfl | rfl | ⟨i, hsel, hexec⟩ := step_cases hstep
  · exact inv_resetBlock hcfg hwf
  · exact hpop
  · obtain ⟨hidle, rfl⟩ | hi := State.select_cases hsel
    · obtain rfl := exec_start_of_isIdle (s := s.popPins) hidle hexec
      exact ⟨hcfg, Nat.mod_lt _ (Nat.two_pow_pos _), hwf, by simp [State.PosOk], by simp [State.ErrOk],
        by simp [State.LoopOk], by simp [State.KindOk], by simp [State.OutOk]⟩
    · exact exec_keeps_inv hpop hi hexec

end Sys2Proof.Machine
end

section
/-! What an operation reads outside the registers: the bytes it asks for, and the setting of the loop guard (R51, R56,
R105). -/

namespace Sys2Proof.Machine

/-- The state with other parameters and another buffer. -/
def State.mapEnv (c : Config → Config) (g : List Host.Cell → List Host.Cell) (s : State) : State :=
  { s with cfg := c s.cfg, buf := g s.buf }

section Env

variable {c : Config → Config} {g : List Host.Cell → List Host.Cell} {s : State}

/-- The parameters and the buffer are not `POS`. -/
@[simp] theorem State.mapEnv_pos : (s.mapEnv c g).pos = s.pos := rfl

/-- PEEK1 answers the same on a buffer that agrees at the address it asks for. -/
theorem State.peek1_mapEnv {p : Nat} (h : ∀ a ∈ s.peek1Reads p, Mem.read (g s.buf) a = Mem.read s.buf a) :
    (s.mapEnv c g).peek1 p = s.peek1 p := by
  obtain hlt | hge := Nat.lt_or_ge p s.len
  · rw [State.peek1_of_lt hlt, State.peek1_of_lt (s := s.mapEnv c g) hlt]
    exact congrArg some (h p (State.mem_peek1Reads.mpr ⟨rfl, hlt⟩))
  · rw [State.peek1_of_ge hge, State.peek1_of_ge (s := s.mapEnv c g) hge]

/-- PEEK2 answers the same on a buffer that agrees at the addresses it asks for. -/
theorem State.peek2_mapEnv {p : Nat} (h : ∀ a ∈ s.peek2Reads p, Mem.read (g s.buf) a = Mem.read s.buf a) :
    (s.mapEnv c g).peek2 p = s.peek2 p := by
  obtain hlt | hge := Nat.lt_or_ge (p + 2) s.len
  · rw [State.peek2_of_lt hlt, State.peek2_of_lt (s := s.mapEnv c g) hlt]
    exact congrArg₂ _ (h p (State.mem_peek2Reads.mpr ⟨.inl rfl, hlt⟩))
      (h (p + 1) (State.mem_peek2Reads.mpr ⟨.inr rfl, hlt⟩))
  · rw [State.peek2_of_ge hge, State.peek2_of_ge (s := s.mapEnv c g) hge]

/-- The gate answers the same on a buffer that agrees at the addresses it asks for. -/
theorem State.hasSoi_mapEnv (h : ∀ a ∈ s.memReads .soi, Mem.read (g s.buf) a = Mem.read s.buf a) :
    (s.mapEnv c g).hasSoi = s.hasSoi := by
  rw [Bool.eq_iff_iff, State.hasSoi_iff, State.hasSoi_iff]
  refine and_congr_right fun hlen => ?_
  have hreads : s.memReads .soi = [0, 1] := if_pos hlen
  rw [hreads] at h
  rw [← h 0 (by simp), ← h 1 (by simp)]
  rfl

/-- A one-byte step answers the same if its use of the byte does: `f` in `s`, `f'` in the other surroundings. -/
theorem withRead1_mapEnv {f f' : Byte → State → State}
    (h : ∀ a ∈ s.peek1Reads s.pos, Mem.read (g s.buf) a = Mem.read s.buf a)
    (hf : ∀ v t, f' v (t.mapEnv c g) = (f v t).mapEnv c g) :
    withRead1 (s.mapEnv c g) f' = mapNext (State.mapEnv c g) (withRead1 s f) := by
  obtain hlt | hge := Nat.lt_or_ge s.pos s.len
  · rw [withRead1_of_lt f hlt, withRead1_of_lt (s := s.mapEnv c g) f' hlt]
    have hbyte := h s.pos (State.mem_peek1Reads.mpr ⟨rfl, hlt⟩)
    exact congrArg Host.Outcome.next ((congrArg (f' · _) hbyte).trans (hf _ (s.setPos (s.pos + 1))))
  · rw [withRead1_of_ge f hge, withRead1_of_ge (s := s.mapEnv c g) f' hge]
    rfl

/-- The end of D_TQ reads neither. -/
theorem State.nextComponent_mapEnv (t : State) : (t.mapEnv c g).nextComponent = t.nextComponent.mapEnv c g := by
  rw [State.nextComponent, State.nextComponent, apply_ite (State.mapEnv c g)]
  rfl

/-- A branch of the SCAN step reads no byte but its marker word. -/
theorem scanBranch_mapEnv (w : Half) :
    scanBranch w (s.mapEnv c g) = mapNext (State.mapEnv c g) (scanBranch w s) := by
  unfold scanBranch
  cases classify w <;> rfl

/-- The SCAN step answers the same under a guard that does and on a buffer that agrees at the bytes it then peeks. -/
theorem execScan_mapEnv (h : ∀ a ∈ s.memReads .scan, Mem.read (g s.buf) a = Mem.read s.buf a)
    (hguard : (s.mapEnv c g).hasNext = s.hasNext) :
    execScan (s.mapEnv c g) = mapNext (State.mapEnv c g) (execScan s) := by
  have hdefined : (s.mapEnv c g).hasNextDefined = s.hasNextDefined := rfl
  simp only [execScan, hguard, hdefined, apply_ite (mapNext (State.mapEnv c g)), ← scanBranch_mapEnv]
  by_cases hnext : s.hasNext = true
  · rw [State.memReads, if_pos hnext] at h
    rw [← State.peek2_mapEnv (c := c) h]
    rfl
  · simp only [if_neg hnext]
    rfl

/-- An operation depends on no parameter but through the loop guard, and on no byte but those it asks for. -/
theorem exec_mapEnv {i : Instr} (h : ∀ a ∈ s.memReads i, Mem.read (g s.buf) a = Mem.read s.buf a)
    (hguard : i = .scan ∨ i = .hasNext → (s.mapEnv c g).hasNext = s.hasNext) :
    exec i (s.mapEnv c g) = mapNext (State.mapEnv c g) (exec i s) := by
  cases i with
  | filler | fillerFfff | sof0 | sof3 | otherMarker | advance | hasLookahead => rfl
  | dMark | dLf | dY | dX | read2 | peek2 =>
    have hword := State.peek2_mapEnv (c := c) h
    simp only [exec, execDMark, execDLf, execDY, execDX, execRead2, execPeek2, withRead2_eq, State.read2_eq,
      State.mapEnv_pos, hword]
    rfl
  | dP | dNf | dCi | dHv | read1 => exact withRead1_mapEnv h fun _ _ => rfl
  | dTq =>
    exact withRead1_mapEnv h fun v t => State.nextComponent_mapEnv ((t.setTq v).emitField .tqi s.k v)
  | scan => exact execScan_mapEnv h (hguard (.inl rfl))
  | hasNext =>
    simp only [exec, execHasNext, hguard (.inr rfl), apply_ite (mapNext (State.mapEnv c g))]
    rfl
  | start n =>
    simp only [exec, execStart, apply_ite (mapNext (State.mapEnv c g))]
    rfl
  | soi =>
    simp only [exec, execSoi, State.hasSoi_mapEnv h, apply_ite (mapNext (State.mapEnv c g))]
    rfl
  | peek1 p =>
    simp only [exec, execPeek1, State.peek1_mapEnv h]
    cases s.peek1 p <;> rfl

end Env

/-- Settles O12: `exec_mapEnv` with the parameters as they are. -/
theorem onlyRequestedBytesMatter : Obligations.OnlyRequestedBytesMatter := by
  unfold Obligations.OnlyRequestedBytesMatter
  intro i s m h
  exact exec_mapEnv (c := id) (g := fun _ => m) h fun _ => rfl

end Sys2Proof.Machine
end

section
/-! The registers no operation reads (R24-R28). -/

namespace Sys2Proof.Machine

/-- Two answers to the operation `i`, from `s` and `s'`, that show no register the operation did not read. -/
def Alike (i : Instr) (s s' t t' : State) : Prop :=
  SameControl t t' ∧ (∀ r : Reg, r ≠ .out → r.Same t t' ∨ r.Same s t ∧ r.Same s' t') ∧
    (t'.ret = t.ret ∨ t.ret = s.ret ∧ t'.ret = s'.ret) ∧
    ((∃ rs : List Record, t.out = s.out ++ rs ∧ t'.out = s'.out ++ rs) ∨
      (∃ n : Nat, i = .start n) ∧ t.out = [] ∧ t'.out = [])

section TwoStates

variable {i : Instr} {s s' t : State} (h : SameControl s s')
include h

/-- The control registers decide the value PEEK1 answers. -/
theorem SameControl.peek1 (p : Nat) : s'.peek1 p = s.peek1 p := by
  obtain ⟨-, -, -, hlen, -, -, hbuf, -⟩ := h
  obtain hlt | hge := Nat.lt_or_ge p s.len
  · rw [State.peek1_of_lt hlt, State.peek1_of_lt (hlen ▸ hlt), hbuf]
  · rw [State.peek1_of_ge hge, State.peek1_of_ge (hlen ▸ hge)]

/-- The control registers decide the value PEEK2 answers. -/
theorem SameControl.peek2 (p : Nat) : s'.peek2 p = s.peek2 p := by
  obtain ⟨-, -, -, hlen, -, -, hbuf, -⟩ := h
  obtain hlt | hge := Nat.lt_or_ge (p + 2) s.len
  · rw [State.peek2_of_lt hlt, State.peek2_of_lt (hlen ▸ hlt), hbuf]
  · rw [State.peek2_of_ge hge, State.peek2_of_ge (hlen ▸ hge)]

/-- Fault entry writes the same in both. -/
theorem SameControl.alike_raise (e : ErrCode) : Alike i s s' (s.raise e) (s'.raise e) := by
  obtain ⟨hcfg, -, hpos, hlen, hnf, hk, hbuf, hpins⟩ := h
  simp [Alike, SameControl, Reg.forall_iff, Reg.Same, *]

/-- A one-byte step goes alike if its use of the byte does. -/
theorem SameControl.withRead1 {g g' : Byte → State → State} (hexec : withRead1 s g = .next t)
    (hg : ∀ v, Alike i s s' (g v (s.setPos (s.pos + 1))) (g' v (s'.setPos (s'.pos + 1)))) :
    ∃ t', Machine.withRead1 s' g' = .next t' ∧ Alike i s s' t t' := by
  have ⟨_, _, hpos, hlen, _, _, hbuf, _⟩ := h
  obtain ⟨hlt, rfl⟩ | ⟨hge, rfl⟩ := withRead1_cases hexec
  · have hbyte : Mem.read s'.buf s'.pos = Mem.read s.buf s.pos := by rw [hbuf, hpos]
    exact ⟨_, withRead1_of_lt g' (by omega), hbyte ▸ hg _⟩
  · exact ⟨_, withRead1_of_ge g' (by omega), h.alike_raise .readOor⟩

/-- The SCAN step takes the same branch in both. -/
theorem SameControl.scan (hexec : execScan s = .next t) : ∃ t', exec .scan s' = .next t' ∧ Alike i s s' t t' := by
  have ⟨hcfg, _, hpos, hlen, hnf, hk, hbuf, hpins⟩ := h
  have hguard : s'.hasNext = s.hasNext := by simp [State.hasNext, *]
  have hpeek : s'.peek2 s'.pos = s.peek2 s.pos := by rw [h.peek2, hpos]
  obtain ⟨hzero, ⟨hend, rfl⟩ | ⟨hnext, hnot0, hnot3, rfl⟩ | ⟨hnext, hmark, rfl⟩⟩ := execScan_cases hexec
  · refine ⟨_, exec_scan_of_end (hpos ▸ hzero) (by simp [hguard, hend]), ?_⟩
    simp [Alike, SameControl, Reg.forall_iff, Reg.Same, *]
  · refine ⟨_, exec_scan_of_skip (hpos ▸ hzero) (hguard.trans hnext) (hpeek ▸ not_or.mpr ⟨hnot0, hnot3⟩), ?_⟩
    simp [Alike, SameControl, Reg.forall_iff, Reg.Same, *]
  · refine ⟨_, exec_scan_of_mark (hpos ▸ hzero) (hguard.trans hnext) (hpeek ▸ hmark), ?_⟩
    simp [Alike, SameControl, Reg.forall_iff, Reg.Same, *]

end TwoStates

/-- Settles O37: the control registers decide every branch and every value read, and what is written is the same in
both. -/
theorem latchesAreNeverRead : Obligations.LatchesAreNeverRead := by
  unfold Obligations.LatchesAreNeverRead
  intro i s s' t h hexec
  change ∃ t', exec i s' = .next t' ∧ Alike i s s' t t'
  have ⟨hcfg, hfsm, hpos, hlen, hnf, hk, hbuf, hpins⟩ := h
  cases i with
  | filler | fillerFfff | sof0 | sof3 | otherMarker | advance | hasLookahead =>
    cases hexec
    refine ⟨_, rfl, ?_⟩
    simp [Alike, SameControl, Reg.forall_iff, Reg.Same, State.hasLookahead, *]
  | dMark | dLf | dY | dX | peek2 | read2 =>
    cases hexec
    refine ⟨_, rfl, ?_⟩
    simp [Alike, SameControl, Reg.forall_iff, Reg.Same, h.peek2, *]
  | dP | dNf | dCi | dHv | read1 =>
    refine h.withRead1 hexec fun v => ?_
    simp [Alike, SameControl, Reg.forall_iff, Reg.Same, *]
  | dTq =>
    refine h.withRead1 hexec fun v => ?_
    by_cases hlast : s.k.toNat + 1 = s.nf.toNat <;>
      simp [Alike, SameControl, Reg.forall_iff, Reg.Same, State.nextComponent, *]
  | scan => exact h.scan hexec
  | start n =>
    obtain ⟨hidle, rfl⟩ | ⟨hbusy, rfl⟩ := execStart_cases hexec
    · refine ⟨_, exec_start_eq_beginRun n (hfsm ▸ hidle), ?_⟩
      simp [Alike, SameControl, Reg.forall_iff, Reg.Same, *]
    · refine ⟨_, exec_start_eq_self n (by simp [hfsm, hbusy]), ?_⟩
      simp [Alike, SameControl, Reg.forall_iff, Reg.Same, *]
  | hasNext =>
    obtain ⟨hzero, rfl⟩ := execHasNext_cases hexec
    refine ⟨_, if_pos (decide_eq_true (hpos ▸ hzero)), ?_⟩
    simp [Alike, SameControl, Reg.forall_iff, Reg.Same, State.hasNext, *]
  | soi =>
    have hsoi : s'.hasSoi = s.hasSoi := by
      rw [Bool.eq_iff_iff, State.hasSoi_iff, State.hasSoi_iff, hlen, hbuf]
    obtain ⟨hyes, rfl⟩ | ⟨hno, rfl⟩ := execSoi_cases hexec
    · refine ⟨_, exec_soi_of_hasSoi (hsoi.trans hyes), ?_⟩
      simp [Alike, SameControl, Reg.forall_iff, Reg.Same, *]
    · exact ⟨_, exec_soi_of_not_hasSoi (by simp [hsoi, hno]), h.alike_raise .invalidSoi⟩
  | peek1 p =>
    obtain ⟨hlt, rfl⟩ | ⟨hge, rfl⟩ := execPeek1_cases hexec
    · refine ⟨_, (peek1ReturnsTheByteOrFaults s' p).1 (hlen ▸ hlt), ?_⟩
      simp [Alike, SameControl, Reg.forall_iff, Reg.Same, *]
    · exact ⟨_, (peek1ReturnsTheByteOrFaults s' p).2 (hlen ▸ hge), h.alike_raise .readOor⟩

end Sys2Proof.Machine
end

section
/-! A truncated frame header (R153). -/

namespace Sys2Proof.Machine

/-- A run of `N` steps from `s` ends in ERROR with READ_OOR, `n` bytes on, with the records `rs` appended. -/
def EndsInFault (N n : Nat) (rs : List Record) (s : State) : Prop :=
  ∃ t, Sys2Proof.core.run N s = .next t ∧ t.fsm = .error ∧ t.err = .readOor ∧ t.pos = s.pos + n ∧ t.out = s.out ++ rs

/-- A part of a decode, then a run that ends in a fault. -/
theorem Decodes.endsInFault {j m N n : Nat} {rs qs : List Record} {s t : State} (d : Decodes j m rs s t)
    (h : EndsInFault N n qs t) : EndsInFault (j + N) (m + n) (rs ++ qs) s := by
  obtain ⟨u, hrun, hfsm, herr, hpos, hout⟩ := h
  refine ⟨u, (run_add_of_next N d.run).trans hrun, hfsm, herr, ?_, ?_⟩
  · rw [hpos, d.pos, Nat.add_assoc]
  · rw [hout, d.out, List.append_assoc]

/-- After a part of a decode, a one-byte step outside the buffer faults, and the fault stays to the end of the run
(R102, R205, R206). -/
theorem Decodes.fault {j n N : Nat} {rs : List Record} {s t : State} (d : Decodes j n rs s t) (hpins : s.pins = [])
    {f : Fsm} {i : Instr} {g : Byte → State → State} (hfsm : t.fsm = f) (hi : decodeFsm f.code = .ok i)
    (hread : exec i t = withRead1 t g) (hge : s.len ≤ s.pos + n) (hN : j < N) : EndsInFault N n rs s := by
  have htpins : t.pins = [] := d.pins.trans hpins
  have hfault : exec i t = .next (t.raise .readOor) := by
    rw [hread, withRead1_of_ge g (by rw [d.len, d.pos]; exact hge)]
  obtain ⟨k, rfl⟩ := Nat.exists_eq_add_of_lt hN
  have hstay := run_of_runOver (s := t.raise .readOor) htpins (.inr rfl) k
  refine ⟨t.raise .readOor, ?_, rfl, rfl, d.pos, d.out⟩
  rw [Nat.add_assoc, run_add_of_next (k + 1) d.run, Nat.add_comm k 1,
    run_add_of_next k (run_one_quiet htpins hfsm hi hfault), hstay]

/-- Nothing is decoded. -/
theorem Decodes.refl (s : State) : Decodes 0 0 [] s s :=
  ⟨rfl, rfl, (List.append_nil _).symm, rfl, rfl, rfl, rfl⟩

/-- The 16-bit value at `POS` after `n` bytes, past the bound of PEEK2 (R101). -/
theorem Decodes.peek2_pos_of_ge {j n : Nat} {rs : List Record} {s t : State} (d : Decodes j n rs s t)
    (h : s.len ≤ s.pos + n + 2) : t.peek2 t.pos = 0#16 := by
  rw [← d.pos, ← d.len] at h
  exact State.peek2_of_ge h

/-- A segment cut off inside its fixed fields (R153, first three rows). -/
theorem endsInFault_fixedFields {s : State} {r N : Nat} (hpins : s.pins = []) (hfsm : s.fsm = .dMark)
    (hlen : s.len = s.pos + r) (hr : 3 ≤ r) (hr10 : r < 10) (hN : 6 ≤ N) :
    EndsInFault N (faultOffset r) (truncatedRecords s.buf s.pos r) s := by
  obtain ⟨t, d, hfsm⟩ := decodes_dMark hpins hfsm
  rw [State.peek2_of_lt (by omega)] at d
  obtain ⟨t, d', hfsm⟩ := decodes_dLf (d.pins.trans hpins) hfsm
  by_cases hr5 : r < 5
  · rw [d.peek2_pos_of_ge (by omega)] at d'
    rw [faultOffset, if_pos hr5, truncatedRecords, if_pos hr5]
    exact (d.trans d').fault hpins hfsm rfl rfl (by omega) (by omega)
  rw [d.peek2_pos (by omega)] at d'
  replace d := d.trans d'
  obtain ⟨t, d', hfsm⟩ := decodes_dP (d.pins.trans hpins) (d.pos_lt (by omega)) hfsm
  rw [d.read_pos] at d'
  replace d := d.trans d'
  obtain ⟨t, d', hfsm⟩ := decodes_dY (d.pins.trans hpins) hfsm
  obtain ⟨u, d'', hfsm⟩ := decodes_dX ((d.trans d').pins.trans hpins) hfsm
  rw [(d.trans d').peek2_pos_of_ge (by omega)] at d''
  rw [faultOffset, if_neg hr5, if_pos hr10, truncatedRecords, if_neg hr5]
  by_cases hr8 : r < 8
  · rw [d.peek2_pos_of_ge (by omega)] at d'
    rw [if_pos hr8]
    exact ((d.trans d').trans d'').fault hpins hfsm rfl rfl (by omega) (by omega)
  · rw [d.peek2_pos (by omega)] at d'
    rw [if_neg hr8, if_pos hr10]
    exact ((d.trans d').trans d'').fault hpins hfsm rfl rfl (by omega) (by omega)

/-- The records of the component loop that a fault after `b` of its bytes leaves (R153). -/
def loopRecordsBeforeFault (b : Nat) : Nat := recordsBeforeFault b - 6

/-- The six records of the fixed fields come before those of the loop. -/
theorem recordsBeforeFault_eq (b : Nat) : recordsBeforeFault b = 6 + loopRecordsBeforeFault b := by
  unfold loopRecordsBeforeFault recordsBeforeFault
  omega

/-- Three bytes are a component, whose records are four. -/
theorem loopRecordsBeforeFault_add_three (b : Nat) :
    loopRecordsBeforeFault (b + 3) = 4 + loopRecordsBeforeFault b := by
  unfold loopRecordsBeforeFault recordsBeforeFault
  rw [Nat.add_mod_right, Nat.add_div_right b (by omega)]
  omega

/-- A component's records are four at most. -/
theorem loopRecordsBeforeFault_le_four {b : Nat} (hb : b < 3) : loopRecordsBeforeFault b ≤ 4 := by
  interval_cases b <;> decide

/-- A component cut off before its third byte is decoded as far as its bytes go (R153). -/
theorem endsInFault_component {s : State} {m b N : Nat} (hpins : s.pins = []) (hfsm : s.fsm = .dCi)
    (hpos : s.pos = m + 10 + 3 * s.k.toNat) (hlen : s.len = s.pos + b) (hb : b < 3) (hN : 3 ≤ N) :
    EndsInFault N b ((componentRecords s.buf m s.k.toNat).take (loopRecordsBeforeFault b)) s := by
  rw [componentRecords_at hpos]
  by_cases hb0 : b = 0
  · subst hb0
    exact (Decodes.refl s).fault hpins hfsm rfl rfl (by omega) (by omega)
  obtain ⟨t, d, -, hk, hfsm⟩ := decodes_dCi hpins (by omega) hfsm
  by_cases hb1 : b = 1
  · subst hb1
    exact d.fault hpins hfsm rfl rfl (by omega) (by omega)
  obtain rfl : b = 2 := by omega
  obtain ⟨u, d', -, -, hfsm⟩ := decodes_dHv (d.pins.trans hpins) (d.pos_lt (by omega)) hfsm
  rw [d.read_pos, hk] at d'
  exact (d.trans d').fault hpins hfsm rfl rfl (by omega) (by omega)

/-- A component loop of `n` more components cut off after `b` bytes: by induction on the components that are left
(R153, last row). -/
theorem endsInFault_components {m : Nat} (n : Nat) {s : State} {b : Nat} (hpins : s.pins = []) (hfsm : s.fsm = .dCi)
    (hpos : s.pos = m + 10 + 3 * s.k.toNat) (hnf : s.k.toNat + n = s.nf.toNat) (hlen : s.len = s.pos + b)
    (hb : b < 3 * n) :
    EndsInFault (3 * n) b ((componentRecordsFrom s.buf m s.k.toNat n).take (loopRecordsBeforeFault b)) s := by
  induction n generalizing s b with
  | zero => omega
  | succ n ih =>
    have hfour : (componentRecords s.buf m s.k.toNat).length = 4 := rfl
    rw [componentRecordsFrom]
    by_cases hb3 : b < 3
    · rw [List.take_append_of_le_length (hfour ▸ loopRecordsBeforeFault_le_four hb3)]
      exact endsInFault_component hpins hfsm hpos hlen hb3 (by omega)
    · obtain ⟨b, rfl⟩ := Nat.exists_eq_add_of_le' (Nat.le_of_not_lt hb3)
      obtain ⟨t, d, ⟨heq, -⟩ | ⟨-, htnf, htk, htfsm⟩⟩ := decodes_component hpins hfsm hpos (by omega)
      · omega
      · have hk : t.k.toNat = s.k.toNat + 1 := by
          rw [htk]
          have := s.nf.isLt
          bv_omega
        have hrest := ih (b := b) (d.pins.trans hpins) htfsm (by rw [d.pos, hk]; omega) (by rw [hk, htnf]; omega)
          (by rw [d.pos, d.len]; omega) (by omega)
        rw [d.buf, hk] at hrest
        rw [loopRecordsBeforeFault_add_three, ← hfour, List.take_length_add_append, Nat.mul_succ, Nat.add_comm (3 * n),
          Nat.add_comm b]
        exact d.endsInFault hrest

/-- Settles O35: the cut is in the fixed fields (`endsInFault_fixedFields`) or in the component loop behind them
(`endsInFault_components`). -/
theorem truncatedHeaderFaults : Obligations.TruncatedHeaderFaults := by
  unfold Obligations.TruncatedHeaderFaults
  intro s r hfsm hpins hlen hr hcut
  change EndsInFault (6 + 3 * (segNf s.buf s.pos).toNat) (faultOffset r) (truncatedRecords s.buf s.pos r) s
  by_cases hr10 : r < 10
  · exact endsInFault_fixedFields hpins hfsm hlen hr hr10 (by omega)
  · obtain ⟨b, rfl⟩ := Nat.exists_eq_add_of_le (Nat.le_of_not_lt hr10)
    have hb : b < 3 * (segNf s.buf s.pos).toNat := by
      rw [segLength] at hcut
      omega
    have hpositive : segNf s.buf s.pos ≠ 0#8 := fun hzero => by simp [hzero] at hb
    obtain ⟨t, d, hnf, hk, htfsm⟩ := decodes_fixedFields hpins hfsm (by omega)
    rw [if_neg hpositive] at htfsm
    have hloop := endsInFault_components (m := s.pos) (segNf s.buf s.pos).toNat (b := b) (d.pins.trans hpins) htfsm
      (by rw [d.pos, hk]; rfl) (by rw [hk, hnf]; exact Nat.zero_add _) (by rw [d.pos, d.len]; omega) hb
    rw [d.buf, hk] at hloop
    have hsix : (fixedRecords s.buf s.pos).length = 6 := rfl
    have hrecords : truncatedRecords s.buf s.pos (10 + b) = fixedRecords s.buf s.pos ++
        (componentRecordsFrom s.buf s.pos 0 (segNf s.buf s.pos).toNat).take (loopRecordsBeforeFault b) := by
      rw [truncatedRecords, if_neg (by omega), if_neg (by omega), if_neg hr10, Nat.add_sub_cancel_left,
        recordsBeforeFault_eq, headerRecords, ← hsix, List.take_length_add_append]
    have hoffset : faultOffset (10 + b) = 10 + b := by
      rw [faultOffset, if_neg (by omega), if_neg hr10]
    rw [hrecords, hoffset]
    exact d.endsInFault hloop

end Sys2Proof.Machine
end

section
/-! The two frame markers (R152). -/

namespace Sys2Proof.Machine

/-- The state with another label, and another record in place `n` of the log. -/
def State.relabel (n : Nat) (r : Record) (kd : Kind) (s : State) : State :=
  { s with kind := kd, out := s.out.set n r }

/-- States that show the same in every register and outside them are the same. -/
theorem State.eq_of_same {s t : State} (hregs : ∀ r : Reg, r.Same s t) (hcfg : t.cfg = s.cfg) (hbuf : t.buf = s.buf)
    (hpins : t.pins = s.pins) (hret : t.ret = s.ret) : t = s := by
  rw [Reg.forall_iff] at hregs
  cases s
  cases t
  simp_all [Reg.Same]

/-- Holding the same goes both ways. -/
theorem Reg.Same.symm {q : Reg} {s t : State} (h : q.Same s t) : q.Same t s := by
  cases q <;> exact Eq.symm h

/-- Holding the same passes on. -/
theorem Reg.Same.trans {q : Reg} {s t u : State} (h : q.Same s t) (h' : q.Same t u) : q.Same s u := by
  cases q <;> exact Eq.trans h' h

/-- A relabelled state differs in `KIND` and `OUT` alone. -/
theorem Reg.same_relabel {q : Reg} (hkind : q ≠ .kind) (hout : q ≠ .out) (s : State) (n : Nat) (r : Record)
    (kd : Kind) : q.Same s (s.relabel n r kd) := by
  cases q with
  | kind => exact absurd rfl hkind
  | out => exact absurd rfl hout
  | _ => rfl

/-- An operation that neither writes the label nor begins a run takes a relabelled state to a relabelled one. -/
theorem exec_relabel {i : Instr} {s t : State} {n : Nat} {r : Record} {kd : Kind} (h : exec i s = .next t)
    (hkind : Reg.kind ∉ writtenBy i) (hstart : ∀ n, i ≠ .start n) (hn : n < s.out.length) :
    exec i (s.relabel n r kd) = .next (t.relabel n r kd) := by
  have hcontrol : SameControl s (s.relabel n r kd) := ⟨rfl, rfl, rfl, rfl, rfl, rfl, rfl, rfl⟩
  obtain ⟨t', hexec, ⟨hcfg, hfsm, hpos, hlen, hnf, hk, hbuf, hpins⟩, hregs, hret, hout⟩ :=
    latchesAreNeverRead i s (s.relabel n r kd) t hcontrol h
  have hkept : t'.kind = kd := (exec_keeps hexec).regs .kind hkind
  obtain ⟨rs, hs, hs'⟩ := hout.resolve_right fun ⟨⟨m, hm⟩, _⟩ => hstart m hm
  have hlog : t'.out = t.out.set n r := by
    rw [hs', hs, List.set_append_left _ _ hn]
    rfl
  rw [hexec]
  refine congrArg Host.Outcome.next (State.eq_of_same ?_ hcfg hbuf hpins ?_)
  · intro q
    by_cases hq : q = .kind
    · subst hq
      exact hkept
    by_cases hq' : q = .out
    · subst hq'
      exact hlog
    have hsame : q.Same t t' := (hregs q hq').elim id fun ⟨hs, hs'⟩ =>
      (hs.symm.trans (Reg.same_relabel hq hq' s n r kd)).trans hs'
    exact (Reg.same_relabel hq hq' t n r kd).symm.trans hsame
  · obtain hret | ⟨hret, hret'⟩ := hret
    · exact hret
    · exact hret'.trans hret.symm

/-- The steps of the decoder behind its marker (R142-R149). -/
def fieldSteps : List Instr := [.dLf, .dP, .dY, .dX, .dNf, .dCi, .dHv, .dTq]

/-- A field step leaves the label, begins no run and evaluates no guard. -/
theorem not_writes_kind_of_mem_fieldSteps {i : Instr} (hi : i ∈ fieldSteps) :
    Reg.kind ∉ writtenBy i ∧ (∀ n, i ≠ .start n) ∧ ¬ (i = .scan ∨ i = .hasNext) := by
  revert hi
  cases i <;> simp [fieldSteps, writtenBy]

/-- A field is read at `POS` or behind it. -/
theorem State.pos_le_of_mem_memReads {i : Instr} {s : State} {a : Nat} (hi : i ∈ fieldSteps)
    (ha : a ∈ s.memReads i) : s.pos ≤ a := by
  have h1 (h : a ∈ s.peek1Reads s.pos) : s.pos ≤ a := (State.mem_peek1Reads.mp h).1.ge
  have h2 (h : a ∈ s.peek2Reads s.pos) : s.pos ≤ a := by
    obtain ⟨rfl | rfl, -⟩ := State.mem_peek2Reads.mp h <;> omega
  cases i with
  | dP | dNf | dCi | dHv | dTq => exact h1 ha
  | dLf | dY | dX => exact h2 ha
  | _ => simp [fieldSteps] at hi

/-- A decode behind its marker at `m` has `j` steps left, of `5 + 3 * Nf`, unless it has faulted. -/
def FieldsLeft (m j : Nat) (s : State) : Prop :=
  match s.fsm with
  | .dLf => s.pos = m + 2 ∧ j = 5 + 3 * (segNf s.buf m).toNat
  | .dP => s.pos = m + 4 ∧ j = 4 + 3 * (segNf s.buf m).toNat
  | .dY => s.pos = m + 5 ∧ j = 3 + 3 * (segNf s.buf m).toNat
  | .dX => s.pos = m + 7 ∧ j = 2 + 3 * (segNf s.buf m).toNat
  | .dNf => s.pos = m + 9 ∧ j = 1 + 3 * (segNf s.buf m).toNat
  | .dCi => m + 10 ≤ s.pos ∧ j + 3 * s.k.toNat = 3 * s.nf.toNat
  | .dHv => m + 10 ≤ s.pos ∧ j + 3 * s.k.toNat + 1 = 3 * s.nf.toNat
  | .dTq => m + 10 ≤ s.pos ∧ j + 3 * s.k.toNat + 2 = 3 * s.nf.toNat
  | .scan => j = 0
  | .error => True
  | .idle | .soi | .dMark | .done => False

/-- A field step is left, behind the marker at `m`, and takes one off the count. -/
def FieldStep (m j : Nat) (s : State) : Prop :=
  ∃ (i : Instr) (t : State), decodeFsm s.fsm.code = .ok i ∧ i ∈ fieldSteps ∧ m + 2 ≤ s.pos ∧ exec i s = .next t ∧
    FieldsLeft m j t

/-- A one-byte field is read or faults. -/
theorem fieldStep_of_withRead1 {m j : Nat} {s : State} {i : Instr} {f : Fsm} {g : Byte → State → State}
    (hfsm : s.fsm = f) (hi : decodeFsm f.code = .ok i) (hmem : i ∈ fieldSteps) (hpos : m + 2 ≤ s.pos)
    (hread : exec i s = withRead1 s g) (hlt : s.pos < s.len → ∃ t, exec i s = .next t ∧ FieldsLeft m j t) :
    FieldStep m j s := by
  obtain hin | hout := Nat.lt_or_ge s.pos s.len
  · obtain ⟨t, hexec, hleft⟩ := hlt hin
    exact ⟨i, t, hfsm ▸ hi, hmem, hpos, hexec, hleft⟩
  · exact ⟨i, _, hfsm ▸ hi, hmem, hpos, hread.trans (withRead1_of_ge g hout), trivial⟩

/-- While the count is not used up, the decode has faulted or reads its next field (R142-R149). -/
theorem FieldsLeft.step {m j : Nat} {s : State} (h : FieldsLeft m (j + 1) s) : s.fsm = .error ∨ FieldStep m j s := by
  unfold FieldsLeft at h
  cases hfsm : s.fsm <;> simp only [hfsm] at h
  case error => exact .inl rfl
  case scan => omega
  all_goals
    obtain ⟨hpos, hj⟩ := h
    right
  case dLf =>
    exact ⟨.dLf, _, hfsm ▸ rfl, by simp [fieldSteps], by omega, exec_dLf s, by simp only [FieldsLeft]; omega⟩
  case dY =>
    exact ⟨.dY, _, hfsm ▸ rfl, by simp [fieldSteps], by omega, exec_dY s, by simp only [FieldsLeft]; omega⟩
  case dX =>
    exact ⟨.dX, _, hfsm ▸ rfl, by simp [fieldSteps], by omega, exec_dX s, by simp only [FieldsLeft]; omega⟩
  case dP =>
    exact fieldStep_of_withRead1 hfsm rfl (by simp [fieldSteps]) (by omega) rfl fun hlt =>
      ⟨_, exec_dP_of_lt hlt, by simp only [FieldsLeft]; omega⟩
  case dNf =>
    refine fieldStep_of_withRead1 hfsm rfl (by simp [fieldSteps]) (by omega) rfl fun hlt =>
      ⟨_, exec_dNf_of_lt hlt, ?_⟩
    have hnf : Mem.read s.buf s.pos = segNf s.buf m := by rw [hpos, segNf]
    by_cases hzero : segNf s.buf m = 0#8
    · simp only [FieldsLeft, hnf, hzero, if_true]
      simp [hzero] at hj
      exact hj
    · simp only [FieldsLeft, hnf, hzero, if_false]
      simp
      omega
  case dCi =>
    exact fieldStep_of_withRead1 hfsm rfl (by simp [fieldSteps]) (by omega) rfl fun hlt =>
      ⟨_, exec_dCi_of_lt hlt, by simp only [FieldsLeft]; omega⟩
  case dHv =>
    exact fieldStep_of_withRead1 hfsm rfl (by simp [fieldSteps]) (by omega) rfl fun hlt =>
      ⟨_, exec_dHv_of_lt hlt, by simp only [FieldsLeft]; omega⟩
  case dTq =>
    refine fieldStep_of_withRead1 hfsm rfl (by simp [fieldSteps]) (by omega) rfl fun hlt => ?_
    by_cases hk : s.k.toNat + 1 = s.nf.toNat
    · exact ⟨_, exec_dTq_of_last hlt hk, by simp only [FieldsLeft]; omega⟩
    · refine ⟨_, exec_dTq_of_not_last hlt hk, ?_⟩
      have hlarge := s.nf.isLt
      have hnext : (s.k + 1#8).toNat = s.k.toNat + 1 := by bv_omega
      simp only [FieldsLeft, hnext]
      omega

/-- The state of the other decode: on the buffer `b`, and with the label of SOF3 in `KIND` and in place `n` of the log. -/
def State.asLossless (n : Nat) (b : List Host.Cell) (s : State) : State :=
  (s.relabel n (.frameBegin 0xFFC3#16 .lossless) .lossless).mapEnv id fun _ => b

/-- Where the log holds the frame record, the other decode has the record of SOF3 in its place. -/
theorem State.asLossless_eq {s : State} {b : List Host.Cell} {l rest : List Record} {r : Record}
    (h : s.out = l ++ r :: rest) : s.asLossless l.length b =
      { s with buf := b, kind := .lossless, out := l ++ .frameBegin 0xFFC3#16 .lossless :: rest } := by
  have hset : (l ++ r :: rest).set l.length (.frameBegin 0xFFC3#16 .lossless) =
      l ++ .frameBegin 0xFFC3#16 .lossless :: rest := by simp
  rw [← hset, ← h]
  rfl

section OtherDecode

variable {m n : Nat} {b : List Host.Cell}

/-- On a buffer that agrees behind the marker, a field step of the other decode does the same. -/
theorem exec_asLossless {i : Instr} {s t : State} (hi : i ∈ fieldSteps) (hpos : m + 2 ≤ s.pos)
    (hb : ∀ a, m + 2 ≤ a → Mem.read b a = Mem.read s.buf a) (hn : n < s.out.length) (hexec : exec i s = .next t) :
    exec i (s.asLossless n b) = .next (t.asLossless n b) := by
  obtain ⟨hkind, hstart, hguard⟩ := not_writes_kind_of_mem_fieldSteps hi
  have hlabel := exec_relabel (r := .frameBegin 0xFFC3#16 .lossless) (kd := .lossless) hexec hkind hstart hn
  have hreads (a : Nat) (ha : a ∈ (s.relabel n (.frameBegin 0xFFC3#16 .lossless) .lossless).memReads i) :
      Mem.read b a = Mem.read s.buf a := hb a (hpos.trans (State.pos_le_of_mem_memReads hi ha))
  rw [State.asLossless, exec_mapEnv hreads fun h => absurd h hguard, hlabel]
  rfl

/-- The two decodes run side by side to the end of the count. -/
theorem FieldsLeft.run_asLossless {j : Nat} {s : State} (h : FieldsLeft m j s) (hpins : s.pins = [])
    (hb : ∀ a, m + 2 ≤ a → Mem.read b a = Mem.read s.buf a) (hn : n < s.out.length) :
    ∃ (t : State) (rs : List Record), Sys2Proof.core.run j s = .next t ∧
      Sys2Proof.core.run j (s.asLossless n b) = .next (t.asLossless n b) ∧ t.kind = s.kind ∧ t.out = s.out ++ rs := by
  induction j generalizing s with
  | zero => exact ⟨s, [], rfl, rfl, rfl, (List.append_nil _).symm⟩
  | succ j ih =>
    obtain herror | ⟨i, t, hi, hmem, hpos, hexec, hleft⟩ := h.step
    · exact ⟨s, [], run_of_runOver hpins (.inr herror) _, run_of_runOver (s := s.asLossless n b) hpins (.inr herror) _,
        rfl, (List.append_nil _).symm⟩
    · have hkeeps := exec_keeps hexec
      obtain ⟨hkind, hstart, -⟩ := not_writes_kind_of_mem_fieldSteps hmem
      obtain ⟨rs, -, hout⟩ := exec_appends hexec hstart
      obtain ⟨u, qs, hrun, hrun', hukind, huout⟩ := ih hleft (hkeeps.pins.trans hpins) (by rwa [hkeeps.buf])
        (by rw [hout, List.length_append]; omega)
      have hstep := step_quiet hpins hi
      have hstep' := step_quiet (s := s.asLossless n b) hpins hi
      rw [hexec] at hstep
      rw [exec_asLossless hmem hpos hb hn hexec] at hstep'
      exact ⟨u, rs ++ qs, (run_succ_of_next (M := Sys2Proof.core) j hstep).trans hrun,
        (run_succ_of_next (M := Sys2Proof.core) j hstep').trans hrun', hukind.trans (hkeeps.regs .kind hkind),
        by rw [huout, hout, List.append_assoc]⟩

end OtherDecode

/-- D_MARK at the marker word FF `b`, by the bytes of the buffer. -/
theorem exec_dMark_of_seesMarker {s : State} {b : Byte} (h : s.SeesMarker b) : exec .dMark s = .next { s with
    pos := s.pos + 2
    kind := kindOf (0xFF#8 ++ b)
    out := s.out ++ [.frameBegin (0xFF#8 ++ b) (kindOf (0xFF#8 ++ b))]
    fsm := .dLf } := by
  rw [exec_dMark, (State.seesMarker_iff s b).mp h]

/-- With C3 written in place of C0 the scanner's marker is that of SOF3. -/
theorem State.seesMarker_write {s : State} (hwf : Mem.wf s.buf = true) (h : s.SeesMarker 0xC0#8) :
    ({ s with buf := Mem.write s.buf (s.pos + 1) 0xC3#8 } : State).SeesMarker 0xC3#8 := by
  obtain ⟨hlt, hff, -⟩ := h
  refine ⟨hlt, ?_, ?_⟩
  · simpa [Mem.read_write _ _ _ hwf] using hff
  · simp [Mem.read_write _ _ _ hwf]

/-- Settles O36: D_MARK tells the two decodes apart in the label, and behind the marker they run side by side
(`FieldsLeft.run_asLossless`). -/
theorem lossyAndLosslessDecodeAlike : Obligations.LossyAndLosslessDecodeAlike := by
  unfold Obligations.LossyAndLosslessDecodeAlike
  intro s hfsm hpins hwf hsees
  have hmark := exec_dMark_of_seesMarker hsees
  have hmark' := exec_dMark_of_seesMarker (State.seesMarker_write hwf hsees)
  have hbehind (a : Nat) (ha : s.pos + 2 ≤ a) :
      Mem.read (Mem.write s.buf (s.pos + 1) 0xC3#8) a = Mem.read s.buf a := by
    rw [Mem.read_write _ _ _ hwf, if_neg (by omega)]
  obtain ⟨t, rest, hrun, hrun', hkind, hout⟩ := FieldsLeft.run_asLossless (m := s.pos) (n := s.out.length)
    (j := 5 + 3 * (segNf s.buf s.pos).toNat)
    (s := { s with
      pos := s.pos + 2
      kind := .lossy
      out := s.out ++ [.frameBegin 0xFFC0#16 .lossy]
      fsm := .dLf }) ⟨rfl, rfl⟩ hpins hbehind (by simp)
  rw [List.append_assoc, List.singleton_append] at hout
  rw [State.asLossless_eq rfl, State.asLossless_eq hout] at hrun'
  have hsix : 6 + 3 * (segNf s.buf s.pos).toNat = 1 + (5 + 3 * (segNf s.buf s.pos).toNat) := by omega
  rw [hsix]
  exact ⟨t, rest, (run_add_of_next _ (run_one_quiet hpins hfsm rfl hmark)).trans hrun, hkind, hout,
    (run_add_of_next _ (run_one_quiet (s := { s with buf := Mem.write s.buf (s.pos + 1) 0xC3#8 }) hpins hfsm rfl
      hmark')).trans hrun'⟩

end Sys2Proof.Machine
end

section
/-! The two settings of the loop guard (R105, R127; C1). -/

namespace Sys2Proof.Machine

/-- The state with a setting of `HASNEXT_BOUND`. -/
def State.withBound (b : HasNextBound) (s : State) : State :=
  s.mapEnv (fun c => { c with hasNextBound := b }) id

/-- The setting shows in no operation but at a loop guard that answers otherwise. -/
theorem exec_withBound {i : Instr} {s t : State} (b : HasNextBound)
    (hguard : i = .scan ∨ i = .hasNext → (s.withBound b).hasNext = s.hasNext) (hexec : exec i s = .next t) :
    exec i (s.withBound b) = .next (t.withBound b) := by
  rw [State.withBound, exec_mapEnv (fun _ _ => rfl) hguard, hexec]
  rfl

/-- Off the end of the buffer the guard does not depend on the setting. -/
theorem State.hasNext_withBound {s : State} (h : s.pos ≠ s.len) (b : HasNextBound) :
    (s.withBound b).hasNext = s.hasNext := by
  obtain hlt | hgt := Nat.lt_or_gt_of_ne h
  · rw [State.hasNext_of_lt hlt, State.hasNext_of_lt (s := s.withBound b) hlt]
  · rw [State.hasNext_of_gt hgt, State.hasNext_of_gt (s := s.withBound b) hgt]

/-- A run in which the guard has not answered at the end of the buffer. -/
def BeforeEnd (s : State) : Prop :=
  s.fsm ≠ .idle ∧ s.fsm ≠ .done ∧ (s.fsm = .scan → s.pos ≠ 0 ∧ s.pos ≤ s.len)

/-- What the two settings show of a run: `t` under `LE`, `t'` under `LT`. -/
def SameEnd (len : Nat) (t t' : State) : Prop :=
  t'.fsm = t.fsm ∧ t'.err = t.err ∧ t'.out = t.out ∧ (t.EndedNormally → t.pos = len + 1 ∧ t'.pos = len) ∧
    (t.Faulted → t'.pos = t.pos)

/-- A one-byte step faults, or leads at most to the end of the buffer. -/
theorem beforeEnd_of_withRead1 {s t : State} {g : Byte → State → State} (hexec : withRead1 s g = .next t)
    (hfsm : ∀ v, (g v (s.setPos (s.pos + 1))).fsm ∉ [Fsm.idle, .done])
    (hpos : ∀ v, (g v (s.setPos (s.pos + 1))).pos = s.pos + 1)
    (hlen : ∀ v, (g v (s.setPos (s.pos + 1))).len = s.len) : BeforeEnd t := by
  obtain ⟨hlt, rfl⟩ | ⟨-, rfl⟩ := withRead1_cases hexec
  · obtain ⟨hidle, hdone⟩ : _ ≠ Fsm.idle ∧ _ ≠ Fsm.done := by simpa using hfsm (Mem.read s.buf s.pos)
    refine ⟨hidle, hdone, fun _ => ?_⟩
    rw [hpos, hlen]
    omega
  · simp [BeforeEnd]

/-- The end of D_TQ moves neither `POS` nor `L`, and leads back to SCAN or to the next component. -/
theorem State.nextComponent_keeps_pos_len (s : State) :
    s.nextComponent.pos = s.pos ∧ s.nextComponent.len = s.len ∧ s.nextComponent.fsm ∉ [Fsm.idle, .done] := by
  obtain ⟨-, hs⟩ | ⟨-, hs⟩ := s.nextComponent_cases <;> simp [hs]

/-- A step from before the end of the buffer, but for the guard at the end itself, leads to one before the end. -/
theorem BeforeEnd.of_exec {i : Instr} {s t : State} (h : BeforeEnd s) (hi : decodeFsm s.fsm.code = .ok i)
    (hend : s.fsm = .scan → s.pos ≠ s.len) (hexec : exec i s = .next t) : BeforeEnd t := by
  obtain ⟨-, -, hscan⟩ := h
  cases hfsm : s.fsm <;> rw [hfsm] at hi <;> cases hi
  case dMark | dLf | dY | dX =>
    cases hexec
    simp [BeforeEnd]
  case dP | dCi | dHv => exact beforeEnd_of_withRead1 hexec (by simp) (fun _ => rfl) fun _ => rfl
  case dNf =>
    refine beforeEnd_of_withRead1 hexec (fun v => ?_) (fun _ => rfl) fun _ => rfl
    by_cases hv : v = 0#8 <;> simp [hv]
  case dTq =>
    exact beforeEnd_of_withRead1 hexec (fun _ => (State.nextComponent_keeps_pos_len _).2.2)
      (fun _ => (State.nextComponent_keeps_pos_len _).1) fun _ => (State.nextComponent_keeps_pos_len _).2.1
  case soi =>
    obtain ⟨hsoi, rfl⟩ | ⟨-, rfl⟩ := execSoi_cases hexec
    · obtain ⟨hlen, -⟩ := (State.hasSoi_iff s).mp hsoi
      simpa [BeforeEnd] using hlen
    · simp [BeforeEnd]
  case scan =>
    have hlt : s.pos < s.len := by
      have hne := hend hfsm
      have hle := (hscan hfsm).2
      omega
    obtain ⟨-, ⟨hstop, -⟩ | ⟨-, -, -, rfl⟩ | ⟨-, -, rfl⟩⟩ := execScan_cases hexec
    · simp [State.hasNext_of_lt hlt] at hstop
    · simpa [BeforeEnd, hfsm] using hlt
    · simp [BeforeEnd]

/-- A busy state names a step, which is no loop guard of its own and no command. -/
theorem Fsm.exists_decodeFsm {f : Fsm} (h : f.isIdle = false) : ∃ i, decodeFsm f.code = .ok i ∧ i ≠ .hasNext ∧
    (∀ n, i ≠ .start n) ∧ (i = .scan → f = .scan) := by
  cases f with
  | idle | done | error => cases h
  | _ => exact ⟨_, rfl, by simp, by simp, by simp⟩

section AtEnd

variable {s : State} (hzero : s.pos ≠ 0)
include hzero

/-- At the end of the buffer the SCAN step ends the run under `LT` (R127). -/
theorem exec_scan_at_end_of_lt (hlt : s.cfg.hasNextBound = .lt) (hend : s.pos = s.len) :
    exec .scan s = .next (s.setFsm .done) :=
  exec_scan_of_end hzero (by simp [State.hasNext_lt hlt, hend])

/-- At the end of the buffer the SCAN step reads once more the word 0 under `LE` (R127). -/
theorem exec_scan_at_end_of_le (hle : s.cfg.hasNextBound = .le) (hend : s.pos = s.len) :
    exec .scan s = .next s.advance := by
  have hword : s.peek2 s.pos = 0#16 := State.peek2_of_ge (by omega)
  exact exec_scan_of_skip hzero (by simp [State.hasNext_le hle, hend]) (by rw [hword]; decide)

/-- Past the end of the buffer the SCAN step ends the run under either setting (R127). -/
theorem exec_scan_past_end (hend : s.len < s.pos) : exec .scan s = .next (s.setFsm .done) :=
  exec_scan_of_end hzero (by simp [State.hasNext_of_gt hend])

end AtEnd

/-- At the end of the buffer `LE` takes one step more than `LT`; both end normally (R127). -/
theorem run_at_end {s u : State} {j : Nat} (hpins : s.pins = []) (hle : s.cfg.hasNextBound = .le)
    (hfsm : s.fsm = .scan) (hzero : s.pos ≠ 0) (hend : s.pos = s.len)
    (hrun : Sys2Proof.core.run (j + 1) s = .next u) (hover : u.RunOver) :
    ∃ u', Sys2Proof.core.run (j + 1) (s.withBound .lt) = .next u' ∧ SameEnd s.len u u' := by
  have hskip := exec_scan_at_end_of_le hzero hle hend
  have hdone := exec_scan_past_end (s := s.advance) (Nat.succ_ne_zero _) (hend ▸ Nat.lt_succ_self s.pos)
  have hdone' := exec_scan_at_end_of_lt (s := s.withBound .lt) hzero rfl hend
  have hstop := run_of_runOver (s := (s.withBound .lt).setFsm .done) hpins (.inl rfl) j
  rw [Nat.add_comm j, run_add_of_next j (run_one_quiet hpins hfsm rfl hskip)] at hrun
  rw [Nat.add_comm j, run_add_of_next j (run_one_quiet (s := s.withBound .lt) hpins hfsm rfl hdone'), hstop]
  refine ⟨_, rfl, ?_⟩
  cases j with
  | zero =>
    cases hrun
    obtain hover | hover := hover <;> exact absurd (hfsm.symm.trans hover) (by decide)
  | succ j =>
    rw [Nat.add_comm j, run_add_of_next j (run_one_quiet (s := s.advance) hpins hfsm rfl hdone),
      run_of_runOver (s := s.advance.setFsm .done) hpins (.inl rfl) j] at hrun
    cases hrun
    simp [SameEnd, State.withBound, State.mapEnv, hend]

/-- A run that faults under `LE` has the same end under `LT`. -/
theorem sameEnd_of_error {s : State} (h : s.fsm = .error) : SameEnd s.len s (s.withBound .lt) :=
  ⟨rfl, rfl, rfl, fun hdone => absurd (h.symm.trans hdone) (by decide), fun _ => rfl⟩

/-- The two runs go side by side up to the guard at the end of the buffer. -/
theorem BeforeEnd.run_withBound {j : Nat} {s u : State} (h : BeforeEnd s) (hpins : s.pins = [])
    (hle : s.cfg.hasNextBound = .le) (hrun : Sys2Proof.core.run j s = .next u) (hover : u.RunOver) :
    ∃ u', Sys2Proof.core.run j (s.withBound .lt) = .next u' ∧ SameEnd s.len u u' := by
  induction j generalizing s with
  | zero =>
    cases hrun
    exact ⟨_, rfl, sameEnd_of_error (hover.resolve_left h.2.1)⟩
  | succ j ih =>
    have ⟨hidle, hdone, hscan⟩ := h
    by_cases herror : s.fsm = .error
    · have hstay := run_of_runOver (s := s.withBound .lt) hpins (.inr herror) (j + 1)
      rw [run_of_runOver hpins (.inr herror)] at hrun
      cases hrun
      exact ⟨_, hstay, sameEnd_of_error herror⟩
    by_cases hend : s.fsm = .scan ∧ s.pos = s.len
    · exact run_at_end hpins hle hend.1 (hscan hend.1).1 hend.2 hrun hover
    obtain ⟨i, hi, hguard, hstart, hifsm⟩ := Fsm.exists_decodeFsm (f := s.fsm) (by simp [Fsm.isIdle, *])
    have hne (hfsm : s.fsm = .scan) : s.pos ≠ s.len := fun hpos => hend ⟨hfsm, hpos⟩
    obtain ⟨t, hexec⟩ := exists_exec (i := i) (s := s) fun hpos =>
      ⟨fun hi => (hscan (hifsm hi)).1 hpos, hguard⟩
    have hexec' := exec_withBound .lt
      (fun hi => State.hasNext_withBound (hne (hifsm (hi.resolve_right hguard))) .lt) hexec
    have hstep := (step_quiet hpins hi).trans hexec
    have hstep' := (step_quiet (s := s.withBound .lt) hpins hi).trans hexec'
    have hkeeps := exec_keeps hexec
    rw [run_succ_of_next (M := Sys2Proof.core) j hstep] at hrun
    rw [run_succ_of_next (M := Sys2Proof.core) j hstep', ← hkeeps.regs .l (l_not_mem_writtenBy hstart)]
    exact ih (h.of_exec hi hne hexec) (hkeeps.pins.trans hpins) (by rw [hkeeps.cfg, hle]) hrun

/-- With no sample left a run uses none up. -/
theorem run_pins_nil {j : Nat} {s t : State} (hpins : s.pins = []) (h : Sys2Proof.core.run j s = .next t) :
    t.pins = [] := by
  induction j generalizing s with
  | zero =>
    cases h
    exact hpins
  | succ j ih =>
    cases hstep : Sys2Proof.core.step s with
    | next u =>
      rw [run_succ_of_next (M := Sys2Proof.core) j hstep] at h
      refine ih ?_ h
      obtain rfl | rfl | ⟨i, -, hexec⟩ := step_cases hstep
      · simp [hpins]
      · simp [hpins]
      · simp [(exec_keeps hexec).pins, hpins]
    | fault r | refused r => simp [Host.Core.run, hstep] at h

/-- A run that is over after `k` steps is over after more. -/
theorem run_of_le {k n : Nat} {s t : State} (hpins : s.pins = []) (h : Sys2Proof.core.run k s = .next t)
    (hover : t.RunOver) (hk : k ≤ n) : Sys2Proof.core.run n s = .next t := by
  obtain ⟨j, rfl⟩ := Nat.exists_eq_add_of_le hk
  rw [run_add_of_next j h, run_of_runOver (run_pins_nil hpins h) hover]

/-- Settles O57: the run under `LE` ends (`everyRunEnds`), and the run under `LT` goes beside it
(`BeforeEnd.run_withBound`). -/
theorem loopBoundDoesNotShowInTheRecords : Obligations.LoopBoundDoesNotShowInTheRecords := by
  unfold Obligations.LoopBoundDoesNotShowInTheRecords
  intro s hfsm hpos _ hpins
  obtain ⟨t, hrun, hover⟩ : ∃ t, Sys2Proof.core.run (s.len + 2) (s.withBound .le) = .next t ∧ t.RunOver := by
    obtain ⟨hlong, hshort⟩ := everyRunEnds (s.withBound .le) hfsm hpos hpins
    obtain hlt | hge := Nat.lt_or_ge s.len 2
    · obtain ⟨t, hrun, hover⟩ := hshort hlt
      exact ⟨t, run_of_le hpins hrun hover (by omega), hover⟩
    · obtain ⟨t, hrun, hover⟩ := hlong hge
      exact ⟨t, run_of_le hpins hrun hover (Nat.le_succ _), hover⟩
  obtain ⟨t', hrun', hsame⟩ :=
    BeforeEnd.run_withBound (s := s.withBound .le) (by simp [BeforeEnd, State.withBound, State.mapEnv, hfsm])
      hpins rfl hrun hover
  exact ⟨t, t', hrun, hrun', hover, hsame⟩

end Sys2Proof.Machine
end

section
/-! A file built from given fields (R83, R151, R232). -/

namespace Sys2Proof.Machine

/-- The buffer holds the bytes `bs` from address `a` on. -/
def Holds (buf : List Host.Cell) (a : Nat) (bs : List Byte) : Prop :=
  ∀ (i : Nat) (h : i < bs.length), Mem.read buf (a + i) = bs[i]

/-- A loaded file stands at offset 0. -/
theorem holds_loadFile (s : State) (file : List Byte) : Holds (s.loadFile file).buf 0 file := by
  intro i h
  rw [Nat.zero_add]
  exact loadedFileReadsBack s file i h

/-- A sequence is held as its first byte and the rest. -/
theorem holds_cons {buf : List Host.Cell} {a : Nat} {b : Byte} {bs : List Byte} :
    Holds buf a (b :: bs) ↔ Mem.read buf a = b ∧ Holds buf (a + 1) bs := by
  constructor
  · intro h
    refine ⟨h 0 (by simp), fun i hi => ?_⟩
    have hbyte := h (i + 1) (by simpa using hi)
    rwa [List.getElem_cons_succ, ← Nat.add_assoc, Nat.add_right_comm] at hbyte
  · rintro ⟨hb, hbs⟩ i hi
    cases i with
    | zero => exact hb
    | succ i =>
      rw [List.getElem_cons_succ, ← Nat.add_assoc, Nat.add_right_comm]
      exact hbs i (by simpa using hi)

/-- Two sequences are held one behind the other. -/
theorem holds_append {buf : List Host.Cell} {a : Nat} {bs cs : List Byte} :
    Holds buf a (bs ++ cs) ↔ Holds buf a bs ∧ Holds buf (a + bs.length) cs := by
  induction bs generalizing a with
  | nil => simp [Holds]
  | cons b bs ih =>
    rw [List.cons_append, holds_cons, ih, holds_cons, and_assoc, List.length_cons, Nat.add_assoc, Nat.add_comm 1]

/-- The two bytes of a 16-bit value read back as the value (R52, R83). -/
theorem bufHalf_of_holds {buf : List Host.Cell} {a : Nat} {v : Half} (h : Holds buf a (halfBytes v)) :
    bufHalf buf a = v := by
  rw [halfBytes, holds_cons, holds_cons] at h
  obtain ⟨hhi, hlo, -⟩ := h
  rw [bufHalf, hhi, hlo]
  exact (BitVec.extractLsb'_append_extractLsb'_eq_extractLsb' (start₁ := 0) rfl).trans BitVec.extractLsb'_eq_self

/-- The sampling byte splits into the nibbles it was built from (R76, R83). -/
theorem nibbles_append (h v : Nibble) : topNibble (h ++ v) = h ∧ bottomNibble (h ++ v) = v :=
  ⟨(BitVec.extractLsb'_append_eq_of_le (Nat.le_refl 4)).trans BitVec.extractLsb'_eq_self,
    (BitVec.extractLsb'_append_eq_of_add_le (Nat.le_refl 4)).trans BitVec.extractLsb'_eq_self⟩

/-- The fields of a built segment, at their offsets (R75, R83). -/
theorem fields_of_holds {buf : List Host.Cell} {m : Nat} {mk lf y x : Half} {p : Byte} {cs : List Component}
    (h : Holds buf m (sofBytes mk lf p y x cs)) :
    bufHalf buf m = mk ∧ bufHalf buf (m + 2) = lf ∧ Mem.read buf (m + 4) = p ∧ bufHalf buf (m + 5) = y ∧
      bufHalf buf (m + 7) = x ∧ segNf buf m = BitVec.ofNat 8 cs.length ∧
      Holds buf (m + 10) (cs.flatMap Component.bytes) := by
  simp only [sofBytes, holds_append] at h
  obtain ⟨⟨⟨⟨⟨⟨hmk, hlf⟩, hp⟩, hy⟩, hx⟩, hnf⟩, hcs⟩ := h
  exact ⟨bufHalf_of_holds hmk, bufHalf_of_holds hlf, (holds_cons.mp hp).1, bufHalf_of_holds hy, bufHalf_of_holds hx,
    (holds_cons.mp hnf).1, hcs⟩

/-- The records of the components of a built segment, by induction on the components (R151). -/
theorem componentRecordsFrom_of_holds {buf : List Host.Cell} {m j : Nat} {cs : List Component}
    (h : Holds buf (m + 10 + 3 * j) (cs.flatMap Component.bytes)) :
    componentRecordsFrom buf m j cs.length = componentListRecords j cs := by
  induction cs generalizing j with
  | nil => rfl
  | cons q cs ih =>
    rw [List.flatMap_cons, holds_append, Component.bytes, holds_cons, holds_cons, holds_cons] at h
    obtain ⟨⟨hc, hhv, ht, -⟩, hrest⟩ := h
    rw [List.length_cons, componentRecordsFrom, componentListRecords, ih hrest]
    refine congrArg (· ++ _) ?_
    have h11 : m + 11 + 3 * j = m + 10 + 3 * j + 1 := by omega
    have h12 : m + 12 + 3 * j = m + 10 + 3 * j + 1 + 1 := by omega
    obtain ⟨htop, hbottom⟩ := nibbles_append q.h q.v
    rw [componentRecords, h11, h12, hc, hhv, ht, htop, hbottom]
    rfl

/-- The records of a whole built segment (R151). -/
theorem headerRecords_of_holds {buf : List Host.Cell} {m : Nat} {mk lf y x : Half} {p : Byte} {cs : List Component}
    (h : Holds buf m (sofBytes mk lf p y x cs)) (hcs : cs.length ≤ 255) :
    headerRecords buf m = [.frameBegin mk (kindOf mk), .field .lf 0#8 16#8 lf, .field .p 0#8 8#8 (p.setWidth 16),
      .field .y 0#8 16#8 y, .field .x 0#8 16#8 x, .field .nf 0#8 8#8 (BitVec.ofNat 16 cs.length)] ++
        componentListRecords 0 cs := by
  obtain ⟨hmk, hlf, hp, hy, hx, hnf, hcomponents⟩ := fields_of_holds h
  have hcount : (BitVec.ofNat 8 cs.length).toNat = cs.length := by
    rw [BitVec.toNat_ofNat]
    omega
  have hvalue : (BitVec.ofNat 8 cs.length).setWidth 16 = BitVec.ofNat 16 cs.length := by
    apply BitVec.eq_of_toNat_eq
    simp
    omega
  rw [headerRecords, fixedRecords, hmk, hlf, hp, hy, hx, hnf, hcount,
    componentRecordsFrom_of_holds (m := m) (j := 0) hcomponents, ← hvalue]
  simp only [fieldRecord_half]
  rfl

/-- At the end of the buffer a run ends within two steps, with no further record (R127). -/
theorem run_two_at_end {s : State} (hpins : s.pins = []) (hfsm : s.fsm = .scan) (hzero : s.pos ≠ 0)
    (hend : s.pos = s.len) :
    ∃ t, Sys2Proof.core.run 2 s = .next t ∧ t.EndedNormally ∧ t.err = s.err ∧ t.out = s.out := by
  cases hb : s.cfg.hasNextBound with
  | le =>
    have hskip := run_one_quiet hpins hfsm rfl (exec_scan_at_end_of_le hzero hb hend)
    have hdone := exec_scan_past_end (s := s.advance) (Nat.succ_ne_zero _) (hend ▸ Nat.lt_succ_self s.pos)
    exact ⟨_, (run_add_of_next 1 hskip).trans (run_one_quiet (s := s.advance) hpins hfsm rfl hdone), rfl, rfl, rfl⟩
  | lt =>
    have hdone := run_one_quiet hpins hfsm rfl (exec_scan_at_end_of_lt hzero hb hend)
    exact ⟨_, (run_add_of_next 1 hdone).trans (run_of_runOver (s := s.setFsm .done) hpins (.inl rfl) 1), rfl, rfl, rfl⟩

/-- From reset, a host that loads a file and pulses start begins a run on it (R232). -/
theorem run_one_bootFile {c : Config} {file : List Byte} (hlen : file.length < 2 ^ c.lenW) :
    ∃ s, Sys2Proof.core.run 1 ((State.resetOf c).bootFile file) = .next s ∧ s.pins = [] ∧ s.fsm = .soi ∧
      Holds s.buf 0 file ∧ s.len = file.length ∧ s.err = .none ∧ s.out = [] := by
  have hstep := step_of_start (s := (State.resetOf c).bootFile file) (.inl rfl) rfl rfl
  have hport : ((State.resetOf c).bootFile file).bufLenNow = file.length := Nat.mod_eq_of_lt hlen
  rw [hport, exec_start_eq_beginRun _ rfl] at hstep
  exact ⟨_, run_succ_of_next (M := Sys2Proof.core) 0 hstep, rfl, rfl, holds_loadFile (State.resetOf c) file, rfl, rfl, rfl⟩

/-- A component is three bytes (R83). -/
theorem length_flatMap_bytes (cs : List Component) : (cs.flatMap Component.bytes).length = 3 * cs.length := by
  induction cs with
  | nil => rfl
  | cons q cs ih =>
    rw [List.flatMap_cons, List.length_append, ih, List.length_cons, Nat.mul_succ, Nat.add_comm]
    rfl

/-- The length of a built segment (R79). -/
theorem length_sofBytes (mk lf : Half) (p : Byte) (y x : Half) (cs : List Component) :
    (sofBytes mk lf p y x cs).length = 10 + 3 * cs.length := by
  rw [sofBytes, List.length_append, length_flatMap_bytes]
  rfl

/-- On a buffer with an image header and a frame marker behind it, two steps lead through the gate to the decoder
(R124, R125, R181). -/
theorem run_two_to_decoder {s : State} (hpins : s.pins = []) (hfsm : s.fsm = .soi) (hsoi : Holds s.buf 0 soiBytes)
    (hlen : 4 < s.len) (hmark : bufHalf s.buf 2 = 0xFFC0#16 ∨ bufHalf s.buf 2 = 0xFFC3#16) :
    Sys2Proof.core.run 2 s = .next { s with pos := 2, fsm := .dMark } := by
  rw [soiBytes, holds_cons, holds_cons] at hsoi
  obtain ⟨hff, hd8, -⟩ := hsoi
  have hgate := exec_soi_of_hasSoi ((State.hasSoi_iff s).mpr ⟨by omega, hff, hd8⟩)
  have hword : ({ s with pos := 2, fsm := .scan } : State).peek2 2 = bufHalf s.buf 2 := State.peek2_of_lt hlen
  have hscan := exec_scan_of_mark (s := { s with pos := 2, fsm := .scan }) (Nat.succ_ne_zero 1)
    (State.hasNext_of_lt (show 2 < s.len by omega)) (hword ▸ hmark)
  exact (run_add_of_next 1 (run_one_quiet hpins hfsm rfl hgate)).trans
    (run_one_quiet (s := { s with pos := 2, fsm := .scan }) hpins rfl rfl hscan)

/-- R141: the label of each frame marker. -/
theorem kindOf_of_mark {mk : Half} {kd : Kind}
    (h : (mk = 0xFFC0#16 ∧ kd = .lossy) ∨ (mk = 0xFFC3#16 ∧ kd = .lossless)) :
    kindOf mk = kd ∧ (mk = 0xFFC0#16 ∨ mk = 0xFFC3#16) := by
  obtain ⟨rfl, rfl⟩ | ⟨rfl, rfl⟩ := h <;> decide

/-- A buffer that ends with its one segment is decoded to the records of the segment, and the run ends normally. -/
theorem run_one_segment {s : State} (hpins : s.pins = []) (hfsm : s.fsm = .soi) (hsoi : Holds s.buf 0 soiBytes)
    (hmark : bufHalf s.buf 2 = 0xFFC0#16 ∨ bufHalf s.buf 2 = 0xFFC3#16) (hlen : s.len = 2 + segLength s.buf 2) :
    ∃ t, Sys2Proof.core.run (10 + 3 * (segNf s.buf 2).toNat) s = .next t ∧ t.EndedNormally ∧ t.err = s.err ∧
      t.out = s.out ++ headerRecords s.buf 2 := by
  have henough : 10 ≤ segLength s.buf 2 := Nat.le_add_right ..
  have hdecoder := run_two_to_decoder hpins hfsm hsoi (by omega) hmark
  obtain ⟨t, d, hscan⟩ := decodes_header (s := { s with pos := 2, fsm := .dMark }) hpins rfl hlen.ge
  have hend : t.pos = t.len := by rw [d.pos, d.len, hlen]
  obtain ⟨u, hrun, hdone, herr, hout⟩ := run_two_at_end (d.pins.trans hpins) hscan (by rw [d.pos]; simp) hend
  have hsteps : 10 + 3 * (segNf s.buf 2).toNat = 2 + (6 + 3 * (segNf s.buf 2).toNat + 2) := by omega
  rw [hsteps, run_add_of_next _ hdecoder, run_add_of_next 2 d.run]
  exact ⟨u, hrun, hdone, herr.trans d.err, hout.trans d.out⟩

/-- A run on a built file appends the records of its fields and ends normally. -/
theorem run_built_file {s : State} {mk lf y x : Half} {kd : Kind} {p : Byte} {cs : List Component} (hpins : s.pins = [])
    (hfsm : s.fsm = .soi) (hfile : Holds s.buf 0 (soiBytes ++ sofBytes mk lf p y x cs))
    (hmk : (mk = 0xFFC0#16 ∧ kd = .lossy) ∨ (mk = 0xFFC3#16 ∧ kd = .lossless)) (hcs : cs.length ≤ 255)
    (hlen : s.len = 12 + 3 * cs.length) :
    ∃ t, Sys2Proof.core.run (10 + 3 * cs.length) s = .next t ∧ t.EndedNormally ∧ t.err = s.err ∧
      t.out = s.out ++ ([.frameBegin mk kd, .field .lf 0#8 16#8 lf, .field .p 0#8 8#8 (p.setWidth 16),
        .field .y 0#8 16#8 y, .field .x 0#8 16#8 x, .field .nf 0#8 8#8 (BitVec.ofNat 16 cs.length)] ++
          componentListRecords 0 cs) := by
  obtain ⟨hkind, hmark⟩ := kindOf_of_mark hmk
  obtain ⟨hsoi, hsof⟩ := holds_append.mp hfile
  replace hsof : Holds s.buf 2 (sofBytes mk lf p y x cs) := hsof
  obtain ⟨hword, -, -, -, -, hnf, -⟩ := fields_of_holds hsof
  have hcount : (segNf s.buf 2).toNat = cs.length := by
    rw [hnf, BitVec.toNat_ofNat]
    omega
  rw [← hkind, ← headerRecords_of_holds hsof hcs, ← hcount]
  rw [← hword] at hmark
  refine run_one_segment hpins hfsm hsoi hmark ?_
  rw [hlen, segLength, hcount, ← Nat.add_assoc]

/-- Settles O58: START begins the run (`run_one_bootFile`), which decodes the file (`run_built_file`). -/
theorem builtFileDecodesToItsFields : Obligations.BuiltFileDecodesToItsFields := by
  unfold Obligations.BuiltFileDecodesToItsFields
  intro c mk lf kd p y x cs _ hmk hcs hfit
  have hlength : (soiBytes ++ sofBytes mk lf p y x cs).length = 12 + 3 * cs.length := by
    rw [List.length_append, length_sofBytes, ← Nat.add_assoc]
    rfl
  obtain ⟨s, hboot, hpins, hfsm, hfile, hlen, herr, hout⟩ :=
    run_one_bootFile (c := c) (file := soiBytes ++ sofBytes mk lf p y x cs) (by rwa [hlength])
  obtain ⟨t, hrun, hdone, hterr, htout⟩ := run_built_file hpins hfsm hfile hmk hcs (hlen.trans hlength)
  have hsteps : 11 + 3 * cs.length = 1 + (10 + 3 * cs.length) := by omega
  rw [hsteps, run_add_of_next _ hboot]
  exact ⟨t, hrun, hdone, hterr.trans herr, by rw [htout, hout, List.nil_append]⟩

end Sys2Proof.Machine
end
